-- ==== Sys2Proof/Word.lean ====
section
/-! DEFINITION. The word types of the SGU (R10, R11, R90) and their plainest arithmetic. -/

namespace Sys2Proof

/-- A byte, an integer 0..255 (R10). -/
abbrev Byte := BitVec 8

/-- One operation word (R90). -/
abbrev Word := BitVec 32

/-- A 128-bit block; its most significant byte is byte 0 of the 16-byte sequence (R11, R260). -/
abbrev Block := BitVec 128

/-- Bits `lo + len - 1` down to `lo` of a word, as an unsigned number (R11). -/
def field (w : Word) (lo len : Nat) : Nat := w.toNat / 2 ^ lo % 2 ^ len

end Sys2Proof
end

