-- ==== Sys2Proof/Syntax.lean ====
section
/-! DEFINITION. The operations of the SGU: one constructor per row of the opcode table (R2, R98, R106). -/

namespace Sys2Proof

/-- The direction of a call: `DIR`, 0 encrypt, 1 decrypt (R92). -/
inductive Dir where
  | enc
  | dec
deriving DecidableEq, Repr

/-- A key length the cipher has a variant for, in bytes 16, 24 or 32 (R7, R100). -/
inductive KeySize where
  | k128
  | k192
  | k256
deriving DecidableEq, Repr

/-- `KSEL`: a key length, or the reserved value 3, a legal word all the same (R100). -/
inductive KSel where
  | k128
  | k192
  | k256
  | krsv
deriving DecidableEq, Repr

/-- The seven buffer registers, ids 0 to 6 (R21, R99); id 7 is reserved and has no constructor. -/
inductive BufId where
  | in_
  | lb
  | la
  | x
  | ct
  | out
  | tag
deriving DecidableEq, Repr

/-- `KIND` of a diagnostic record (R101); kind 3 is reserved and has no constructor. -/
inductive DiagKind where
  | ivsize
  | counts
  | tagval
deriving DecidableEq, Repr

/-- One operation of the SGU. Operands stand in the order of the written syntax (R106): DST, SRCA, SRCB, N.
Counts (`N`, `IVLEN`) are unsigned byte counts (R96); that they fit 16 bits is `WellFormed`. -/
inductive Instr where
  /-- `ENCRYPT k, ivlen` (R172). -/
  | encrypt (k : KSel) (ivlen : Nat)
  /-- `DECRYPT k, ivlen` (R190). -/
  | decrypt (k : KSel) (ivlen : Nat)
  /-- `E.INIT dir, k, ivlen` (R121). -/
  | eInit (dir : Dir) (k : KSel) (ivlen : Nat)
  /-- `E.UPDATE dst, src` (R124). -/
  | eUpdate (dst src : BufId)
  /-- `E.FINALIZE_ENC` (R127). -/
  | eFinalizeEnc
  /-- `E.SET_TAG src` (R128). -/
  | eSetTag (src : BufId)
  /-- `E.FINALIZE_DEC` (R129). -/
  | eFinalizeDec
  /-- `E.RELEASE` (R131). -/
  | eRelease
  /-- `B.EMPTY dst` (R141). -/
  | bEmpty (dst : BufId)
  /-- `B.FROM_ARRAY dst` (R142). -/
  | bFromArray (dst : BufId)
  /-- `B.RESIZE dst, n` (R143). -/
  | bResize (dst : BufId) (n : Nat)
  /-- `B.CONCAT dst, a, b` (R144). -/
  | bConcat (dst srca srcb : BufId)
  /-- `B.HEAD dst, src, n` (R145). -/
  | bHead (dst src : BufId) (n : Nat)
  /-- `B.TAIL dst, src, n` (R146). -/
  | bTail (dst src : BufId) (n : Nat)
  /-- `B.POP_FRONT dst, n` (R147). -/
  | bPopFront (dst : BufId) (n : Nat)
  /-- `B.POP_BACK dst, n` (R148). -/
  | bPopBack (dst : BufId) (n : Nat)
  /-- `B.COPY dst, src` (R149). -/
  | bCopy (dst src : BufId)
  /-- `S.READ dst, n` (R160). -/
  | sRead (dst : BufId) (n : Nat)
  /-- `S.WRITE src` (R163). -/
  | sWrite (src : BufId)
  /-- `S.DIAG kind` (R166). -/
  | sDiag (kind : DiagKind)
deriving DecidableEq, Repr

/-- Who may issue an operation (R98): the host on `CMD`, or the driver on the internal bus. -/
inductive Issuer where
  | host
  | driver
deriving DecidableEq, Repr

end Sys2Proof
end

