-- ==== Sys2Proof/Config.lean ====
section
/-! DEFINITION. What an implementation fixes (R7 to R9) and the free values (R14, R143). -/

namespace Sys2Proof

/-- `T`: the tag size in bytes (R7). -/
def Config.tagLen : Nat := 16

/-- `MSG_MAX` of the default `CIPHER` (R134, R268). -/
def Config.msgMax : Nat := 2 ^ 36 - 32

/-- FREE VALUE. The `i`-th byte drawn when `B.RESIZE` exposes bytes nobody wrote (R143, U1): no body, nothing is
known of it. -/
opaque Config.freeByte : Nat → Byte

/-- FREE VALUE. Byte `p` of the endless input stream number `e`, from where its listed bytes end (R61, log 26): no body,
nothing is known of it. -/
opaque Config.endlessByte (e p : Nat) : Byte

/-- The parameters that are fixed when the unit is constructed (R8, R9, R46). -/
structure Params where
  /-- `B`, the chunk capacity in bytes (R8). -/
  chunk : Nat
  /-- `IV_MAX`, the largest IV length `E.INIT` accepts (R9). -/
  ivMax : Nat
  /-- `KEY_SIZES`, the key lengths `E.INIT` accepts (R9). -/
  keySizes : List KeySize
  /-- `CNT_BITS`, the width of the diagnostic counters (R9). -/
  cntBits : Nat
deriving DecidableEq, Repr

/-- The default parameters (R9). -/
def Params.standard : Params where
  chunk := 4096
  ivMax := 65535
  keySizes := [.k128, .k192, .k256]
  cntBits := 64

/-- The constraints on the parameters (R8, R9, R335); that a counter fits the 8 bytes of its record is read from
R108 (DEDUCED, log 11). -/
abbrev Params.Ok (p : Params) : Prop :=
  16 ≤ p.chunk ∧ p.chunk + 16 ≤ 65535 ∧ 1 ≤ p.ivMax ∧ p.ivMax ≤ 65535 ∧ p.cntBits ≤ 64

end Sys2Proof
end

