-- ==== Sys2Proof/Machine/Bytes.lean ====
section
/-! DEFINITION. Byte order and bytes of blocks (R11, R130, R260). -/

namespace Sys2Proof.Machine

/-- `v` as `n` bytes, most significant first: `be16`, `be32`, `be64` (R260). -/
def beBytes (n v : Nat) : List Byte := (List.range n).map fun i => BitVec.ofNat 8 (v / 256 ^ (n - 1 - i))

/-- The number that bytes write, most significant first. -/
def beNat (s : List Byte) : Nat := s.foldl (fun a b => a * 256 + b.toNat) 0

/-- The 16-byte sequence of a block (R11). -/
def blockBytes (x : Block) : List Byte := beBytes 16 x.toNat

/-- The block of a 16-byte sequence (R11). -/
def bytesBlock (s : List Byte) : Block := BitVec.ofNat 128 (beNat s)

/-- Byte `i` of a block, byte 0 the most significant (R260). -/
def blockByte (x : Block) (i : Nat) : Byte := BitVec.ofNat 8 (x.toNat / 256 ^ (15 - i))

/-- A block with byte `i` replaced (`ctx.PART[i] <- c`, R125). -/
def setBlockByte (x : Block) (i : Nat) (b : Byte) : Block :=
  (x &&& ~~~(BitVec.ofNat 128 (255 * 256 ^ (15 - i)))) ||| BitVec.ofNat 128 (b.toNat * 256 ^ (15 - i))

/-- `n` zero bytes, `0^n` (R10). -/
def zeroBytes (n : Nat) : List Byte := List.replicate n 0

/-- The first `m` blocks of a byte sequence (R264). -/
def blocksOf : Nat → List Byte → List Block
  | 0, _ => []
  | m + 1, d => bytesBlock (d.take 16) :: blocksOf m (d.drop 16)

end Sys2Proof.Machine
end

