-- ==== Sys2Proof/WellFormed.lean ====
section
/-! DEFINITION. Well-formed operations: those that have a word of their own (R96). -/

namespace Sys2Proof

/-- A byte count fits its 16-bit field (R96). -/
abbrev Fits16 (n : Nat) : Prop := n < 2 ^ 16

/-- An operation is well formed when every count it names fits its 16-bit field (R96). Reserved buffer ids and
kinds have no constructor, and `KSEL = 3` is a legal operand (R100). -/
def WellFormed : Instr → Prop
  | .encrypt _ n => Fits16 n
  | .decrypt _ n => Fits16 n
  | .eInit _ _ n => Fits16 n
  | .eUpdate _ _ => True
  | .eFinalizeEnc => True
  | .eSetTag _ => True
  | .eFinalizeDec => True
  | .eRelease => True
  | .bEmpty _ => True
  | .bFromArray _ => True
  | .bResize _ n => Fits16 n
  | .bConcat _ _ _ => True
  | .bHead _ _ n => Fits16 n
  | .bTail _ _ n => Fits16 n
  | .bPopFront _ n => Fits16 n
  | .bPopBack _ n => Fits16 n
  | .bCopy _ _ => True
  | .sRead _ n => Fits16 n
  | .sWrite _ => True
  | .sDiag _ => True

/-- Who may issue an operation (R98, column "who"). -/
def issuer : Instr → Issuer
  | .encrypt _ _ => .host
  | .decrypt _ _ => .host
  | .eInit _ _ _ => .driver
  | .eUpdate _ _ => .driver
  | .eFinalizeEnc => .driver
  | .eSetTag _ => .driver
  | .eFinalizeDec => .driver
  | .eRelease => .driver
  | .bEmpty _ => .driver
  | .bFromArray _ => .driver
  | .bResize _ _ => .driver
  | .bConcat _ _ _ => .driver
  | .bHead _ _ _ => .driver
  | .bTail _ _ _ => .driver
  | .bPopFront _ _ => .driver
  | .bPopBack _ _ => .driver
  | .bCopy _ _ => .driver
  | .sRead _ _ => .driver
  | .sWrite _ => .driver
  | .sDiag _ => .driver

end Sys2Proof
end

