-- ==== Sys2Proof/Decode.lean ====
section
/-! DEFINITION. The decoder and the encoder of operation words (R91, R98 to R101, R103, R111), and the opcode
table's match and mask. -/

namespace Sys2Proof

/-- Why a word is illegal (R103). -/
inductive DecodeError where
  /-- `OPC` is unassigned. -/
  | unassignedOpcode
  /-- A must-be-zero field is not zero. -/
  | reservedBits
  /-- A buffer id field the operation uses is 7. -/
  | reservedBuffer
  /-- `KIND = 3`. -/
  | reservedKind
deriving DecidableEq, Repr

/-- One row of the opcode table: a word `w` matches iff `w &&& mask = pattern` (R98). -/
structure OpRow where
  mnemonic : String
  pattern : Word
  mask : Word
deriving DecidableEq, Repr

/-- The opcode table of R98, in its order. -/
def opcodeTable : List OpRow :=
  [ ⟨"ENCRYPT", 0x01000000, 0xFF9F0000⟩, ⟨"DECRYPT", 0x01800000, 0xFF9F0000⟩,
    ⟨"E.INIT", 0x10000000, 0xFF1F0000⟩, ⟨"E.UPDATE", 0x11000000, 0xFF03FFFF⟩,
    ⟨"E.FINALIZE_ENC", 0x12000000, 0xFFFFFFFF⟩, ⟨"E.SET_TAG", 0x13000000, 0xFFE3FFFF⟩,
    ⟨"E.FINALIZE_DEC", 0x14000000, 0xFFFFFFFF⟩, ⟨"E.RELEASE", 0x15000000, 0xFFFFFFFF⟩ ] ++
  [ ⟨"B.EMPTY", 0x20000000, 0xFF1FFFFF⟩, ⟨"B.FROM_ARRAY", 0x21000000, 0xFF1FFFFF⟩,
    ⟨"B.RESIZE", 0x22000000, 0xFF1F0000⟩, ⟨"B.CONCAT", 0x23000000, 0xFF007FFF⟩,
    ⟨"B.HEAD", 0x24000000, 0xFF030000⟩, ⟨"B.TAIL", 0x25000000, 0xFF030000⟩,
    ⟨"B.POP_FRONT", 0x26000000, 0xFF1F0000⟩, ⟨"B.POP_BACK", 0x27000000, 0xFF1F0000⟩,
    ⟨"B.COPY", 0x28000000, 0xFF03FFFF⟩ ] ++
  [ ⟨"S.READ", 0x30000000, 0xFF1F0000⟩, ⟨"S.WRITE", 0x31000000, 0xFFE3FFFF⟩,
    ⟨"S.DIAG", 0x32000000, 0xFFFFFFFC⟩ ]

/-- The mnemonic of an operation, as the opcode table spells it (R98). -/
def mnemonic : Instr → String
  | .encrypt _ _ => "ENCRYPT"
  | .decrypt _ _ => "DECRYPT"
  | .eInit _ _ _ => "E.INIT"
  | .eUpdate _ _ => "E.UPDATE"
  | .eFinalizeEnc => "E.FINALIZE_ENC"
  | .eSetTag _ => "E.SET_TAG"
  | .eFinalizeDec => "E.FINALIZE_DEC"
  | .eRelease => "E.RELEASE"
  | .bEmpty _ => "B.EMPTY"
  | .bFromArray _ => "B.FROM_ARRAY"
  | .bResize _ _ => "B.RESIZE"
  | .bConcat _ _ _ => "B.CONCAT"
  | .bHead _ _ _ => "B.HEAD"
  | .bTail _ _ _ => "B.TAIL"
  | .bPopFront _ _ => "B.POP_FRONT"
  | .bPopBack _ _ => "B.POP_BACK"
  | .bCopy _ _ => "B.COPY"
  | .sRead _ _ => "S.READ"
  | .sWrite _ => "S.WRITE"
  | .sDiag _ => "S.DIAG"

/-- The buffer register of a 3-bit id; 7 is reserved (R99). -/
def bufOfId : Nat → Option BufId
  | 0 => some .in_
  | 1 => some .lb
  | 2 => some .la
  | 3 => some .x
  | 4 => some .ct
  | 5 => some .out
  | 6 => some .tag
  | _ => none

/-- The id of a buffer register (R21, R99). -/
def bufId : BufId → Nat
  | .in_ => 0
  | .lb => 1
  | .la => 2
  | .x => 3
  | .ct => 4
  | .out => 5
  | .tag => 6

/-- `KSEL` of its 2-bit value (R100). -/
def kselOfNum : Nat → KSel
  | 0 => .k128
  | 1 => .k192
  | 2 => .k256
  | _ => .krsv

/-- The 2-bit value of a `KSEL` (R100). -/
def kselNum : KSel → Nat
  | .k128 => 0
  | .k192 => 1
  | .k256 => 2
  | .krsv => 3

/-- `DIR` of its bit (R92). -/
def dirOfNum : Nat → Dir
  | 0 => .enc
  | _ => .dec

/-- The bit of a `DIR` (R92). -/
def dirNum : Dir → Nat
  | .enc => 0
  | .dec => 1

/-- The kind of a diagnostic record; 3 is reserved (R101). -/
def kindOfNum : Nat → Option DiagKind
  | 0 => some .ivsize
  | 1 => some .counts
  | 2 => some .tagval
  | _ => none

/-- The 2-bit value of a `KIND` (R101). -/
def kindNum : DiagKind → Nat
  | .ivsize => 0
  | .counts => 1
  | .tagval => 2

/-- The field `OPC`, bits 31 to 24 (R90). -/
def opcOf (w : Word) : Nat := field w 24 8
/-- The field `DIR` of Formats T and I, bit 23 (R91). -/
def dirOf (w : Word) : Dir := dirOfNum (field w 23 1)
/-- The field `KSEL` of Formats T and I, bits 22 and 21 (R91). -/
def kselOf (w : Word) : KSel := kselOfNum (field w 21 2)
/-- The count in bits 15 to 0: `IVLEN` of Formats T and I, `N` of Format BN (R91, R96). -/
def countOf (w : Word) : Nat := field w 0 16
/-- The field `DST`, bits 23 to 21 (R91). -/
def dstOf (w : Word) : Option BufId := bufOfId (field w 21 3)
/-- The field `SRCA`, bits 20 to 18 (R91). -/
def srcaOf (w : Word) : Option BufId := bufOfId (field w 18 3)
/-- The field `SRCB`, bits 17 to 15 (R91). -/
def srcbOf (w : Word) : Option BufId := bufOfId (field w 15 3)

/-- Go on when a must-be-zero field is zero (R103). -/
def whenZero (x : Nat) (k : Except DecodeError Instr) : Except DecodeError Instr :=
  if x = 0 then k else .error .reservedBits

/-- Go on with a used buffer register, unless its id is 7 (R103). -/
def withBuf (r : Option BufId) (k : BufId → Except DecodeError Instr) : Except DecodeError Instr :=
  match r with
  | some b => k b
  | none => .error .reservedBuffer

/-- The decoder, total on 32-bit words (R103, R111). -/
def decode (w : Word) : Except DecodeError Instr :=
  match opcOf w with
  | 0x01 => whenZero (field w 16 5)
      (match dirOf w with
       | .enc => .ok (.encrypt (kselOf w) (countOf w))
       | .dec => .ok (.decrypt (kselOf w) (countOf w)))
  | 0x10 => whenZero (field w 16 5) (.ok (.eInit (dirOf w) (kselOf w) (countOf w)))
  | 0x11 => whenZero (field w 0 18) (withBuf (dstOf w) fun d => withBuf (srcaOf w) fun a => .ok (.eUpdate d a))
  | 0x12 => whenZero (field w 0 24) (.ok .eFinalizeEnc)
  | 0x13 => whenZero (field w 21 3) (whenZero (field w 0 18) (withBuf (srcaOf w) fun a => .ok (.eSetTag a)))
  | 0x14 => whenZero (field w 0 24) (.ok .eFinalizeDec)
  | 0x15 => whenZero (field w 0 24) (.ok .eRelease)
  | 0x20 => whenZero (field w 0 21) (withBuf (dstOf w) fun d => .ok (.bEmpty d))
  | 0x21 => whenZero (field w 0 21) (withBuf (dstOf w) fun d => .ok (.bFromArray d))
  | 0x22 => whenZero (field w 16 5) (withBuf (dstOf w) fun d => .ok (.bResize d (countOf w)))
  | 0x23 => whenZero (field w 0 15) (withBuf (dstOf w) fun d => withBuf (srcaOf w) fun a =>
      withBuf (srcbOf w) fun b => .ok (.bConcat d a b))
  | 0x24 => whenZero (field w 16 2) (withBuf (dstOf w) fun d => withBuf (srcaOf w) fun a => .ok (.bHead d a (countOf w)))
  | 0x25 => whenZero (field w 16 2) (withBuf (dstOf w) fun d => withBuf (srcaOf w) fun a => .ok (.bTail d a (countOf w)))
  | 0x26 => whenZero (field w 16 5) (withBuf (dstOf w) fun d => .ok (.bPopFront d (countOf w)))
  | 0x27 => whenZero (field w 16 5) (withBuf (dstOf w) fun d => .ok (.bPopBack d (countOf w)))
  | 0x28 => whenZero (field w 0 18) (withBuf (dstOf w) fun d => withBuf (srcaOf w) fun a => .ok (.bCopy d a))
  | 0x30 => whenZero (field w 16 5) (withBuf (dstOf w) fun d => .ok (.sRead d (countOf w)))
  | 0x31 => whenZero (field w 21 3) (whenZero (field w 0 18) (withBuf (srcaOf w) fun a => .ok (.sWrite a)))
  | 0x32 => whenZero (field w 2 22)
      (match kindOfNum (field w 0 2) with
       | some k => .ok (.sDiag k)
       | none => .error .reservedKind)
  | _ => .error .unassignedOpcode

/-- A word of Formats T and I (R91). -/
def packT (opc dir ksel n : Nat) : Word := BitVec.ofNat 32 (opc * 2 ^ 24 + dir * 2 ^ 23 + ksel * 2 ^ 21 + n % 2 ^ 16)

/-- A word of Formats BN, Z and K: the count also carries `KIND` (R91). -/
def packBN (opc dst srca n : Nat) : Word :=
  BitVec.ofNat 32 (opc * 2 ^ 24 + dst * 2 ^ 21 + srca * 2 ^ 18 + n % 2 ^ 16)

/-- A word of Format B3 (R91). -/
def packB3 (opc dst srca srcb : Nat) : Word :=
  BitVec.ofNat 32 (opc * 2 ^ 24 + dst * 2 ^ 21 + srca * 2 ^ 18 + srcb * 2 ^ 15)

/-- The word of an operation: its row's match with the fields it uses, the others zero (R98, R111). -/
def encode : Instr → Word
  | .encrypt k n => packT 0x01 0 (kselNum k) n
  | .decrypt k n => packT 0x01 1 (kselNum k) n
  | .eInit d k n => packT 0x10 (dirNum d) (kselNum k) n
  | .eUpdate d a => packBN 0x11 (bufId d) (bufId a) 0
  | .eFinalizeEnc => packBN 0x12 0 0 0
  | .eSetTag a => packBN 0x13 0 (bufId a) 0
  | .eFinalizeDec => packBN 0x14 0 0 0
  | .eRelease => packBN 0x15 0 0 0
  | .bEmpty d => packBN 0x20 (bufId d) 0 0
  | .bFromArray d => packBN 0x21 (bufId d) 0 0
  | .bResize d n => packBN 0x22 (bufId d) 0 n
  | .bConcat d a b => packB3 0x23 (bufId d) (bufId a) (bufId b)
  | .bHead d a n => packBN 0x24 (bufId d) (bufId a) n
  | .bTail d a n => packBN 0x25 (bufId d) (bufId a) n
  | .bPopFront d n => packBN 0x26 (bufId d) 0 n
  | .bPopBack d n => packBN 0x27 (bufId d) 0 n
  | .bCopy d a => packBN 0x28 (bufId d) (bufId a) 0
  | .sRead d n => packBN 0x30 (bufId d) 0 n
  | .sWrite a => packBN 0x31 0 (bufId a) 0
  | .sDiag k => packBN 0x32 0 0 (kindNum k)

/-- The word that the table's bit numbering writes as the number `w` of `nbits` bits: every operation is one
32-bit word, bit 0 its least significant (R90, R105). -/
def tableWord (nbits w : Nat) : Word := BitVec.ofNat 32 (w % 2 ^ nbits)

/-- What the decoder reads from an instruction given in the opcode table's bit numbering. -/
def decodeTableWord (nbits w : Nat) : Option Instr :=
  match decode (tableWord nbits w) with
  | .ok i => some i
  | .error _ => none

end Sys2Proof
end

