-- ==== Sys2Proof/Machine/State.lean ====
section
/-! DEFINITION. The state of one SGU (R20), the environment's side of a run (R61 to R70), and reset (R56). -/

namespace Sys2Proof.Machine

/-- `FSM` (R30). -/
inductive Fsm where
  | idle
  | streaming
  | done
deriving DecidableEq, Repr

/-- The labels of the driver's steps that `STEP` holds (R31). -/
inductive Label where
  | st0 | st1
  | en1 | en2 | en3 | en4 | en5 | en6 | en7
  | de1 | de2 | de3 | de4 | de5 | de6 | de7 | de8 | de9
  | df1 | df2 | df3 | df4 | df5 | df6
deriving DecidableEq, Repr

/-- `RD_ST`, the status of the last read (R35, R62). -/
inductive RdStatus where
  | ok
  | eof
  | err
deriving DecidableEq, Repr

/-- `WR_ST`, the status of the last write (R35, R66). -/
inductive WrStatus where
  | ok
  | err
deriving DecidableEq, Repr

/-- The outcomes of R280. -/
inductive Code where
  | success
  | authenticationFailed
  | usageError
  | keyOrIvFormatError
  | engineInitError
  | ioReadError
  | ioWriteError
  | inputTooShort
  | transformSizeMismatch
  | engineTransformError
  | contractViolation
  | noOutcome
deriving DecidableEq, Repr

/-- The seven buffer registers, each as its value `val(r)` (R21, R23). -/
structure Bufs where
  in_ : List Byte
  lb : List Byte
  la : List Byte
  x : List Byte
  ct : List Byte
  out : List Byte
  tag : List Byte
deriving DecidableEq, Repr

/-- Every buffer register empty (R56). -/
def Bufs.empty : Bufs := ⟨[], [], [], [], [], [], []⟩

/-- The engine context `ctx` (R50). -/
structure Ctx where
  /-- `ctx.VALID`: a context exists. -/
  valid : Bool
  /-- `ctx.DIR`. -/
  dir : Dir
  /-- `ctx.NR`, the number of AES rounds. -/
  nr : BitVec 4
  /-- `ctx.RK[0..14]`, the round keys. -/
  rk : List Block
  /-- `ctx.H`, the hash subkey. -/
  h : Block
  /-- `ctx.J0`, the pre-counter block. -/
  j0 : Block
  /-- `ctx.Y`, the GHASH accumulator. -/
  y : Block
  /-- `ctx.N`, the bytes taken by `E.UPDATE` so far. -/
  n : Nat
  /-- `ctx.PART[0..15]`, the incomplete ciphertext block. -/
  part : Block
  /-- `ctx.XTAG`, the expected tag. -/
  xtag : Block
  /-- `ctx.XSET`: `XTAG` has been set. -/
  xset : Bool
  /-- `ctx.FIN`: a finalize operation has run. -/
  fin : Bool
deriving DecidableEq, Repr

/-- Every field of `ctx` zero (R56, R131). -/
def Ctx.zero : Ctx where
  valid := false
  dir := .enc
  nr := 0
  rk := List.replicate 15 0
  h := 0
  j0 := 0
  y := 0
  n := 0
  part := 0
  xtag := 0
  xset := false
  fin := false

/-- A byte-indexed operand memory (`KEY`, `IVMEM`, R42): the bytes that are not zero, addresses rising. An unlisted
byte reads 0, the reset contents of R56. -/
abbrev Memory := List Host.Cell

/-- One action of a driver step: a micro-operation word on the internal bus (R90), or what a step rule writes
between micro-operations. -/
inductive Action where
  /-- Issue a micro-operation word. -/
  | op (w : Word)
  /-- `CNT_OUT <- CNT_OUT + buf[OUT].len` (R174, R193, R196, R208). -/
  | countOut
  /-- `LAST <- (buf[IN].len < B)` (R173). -/
  | markLast
  /-- `step <- L` (R14). -/
  | goto (l : Label)
  /-- `raise K()` written in a step rule itself (R206). -/
  | raise (c : Code)
  /-- The end of a call that was not aborted: empty the buffers, write `RESULT`, `FSM <- DONE` (R179, R211). -/
  | complete (result : BitVec 8)
deriving DecidableEq, Repr

/-- `S_in`: finite, or an endless sequence (R61). -/
structure InStream where
  /-- The bytes of a finite stream; the first bytes of an endless one. -/
  bytes : List Byte
  /-- `none`: the stream ends after `bytes`. `some e`: it goes on for ever with the free bytes numbered `e` (log 26). -/
  endless : Option Nat
deriving DecidableEq, Repr

/-- How the input stream answers one `MemRead(INS, n)` (R62). With no answer listed the source is well behaved
(R63): `min(n, L - p)` bytes, `EOF` when that is fewer than `n`, and, of the two statuses R63 then allows, `OK` when it
is `n` (log 25). -/
inductive ReadAnswer where
  /-- The port is not ready; the blocking transaction stays pending for one step. -/
  | wait
  /-- The port never answers (U11); this entry stays. -/
  | hang
  /-- The answer that is also given when none is listed. -/
  | sound
  /-- `min(n - short, L - p)` bytes with status `st`. -/
  | answer (short : Nat) (st : RdStatus)
deriving DecidableEq, Repr

/-- How the output stream answers one `MemWrite(OUTS, m, s)` (R66). With no answer listed the sink is well behaved:
`(m, OK)`. -/
inductive WriteAnswer where
  /-- The port is not ready; the blocking transaction stays pending for one step. -/
  | wait
  /-- The port never answers (U11); this entry stays. -/
  | hang
  /-- The first `m - short` bytes are accepted, with status `st`. -/
  | answer (short : Nat) (st : WrStatus)
deriving DecidableEq, Repr

/-- How the engine answers one question of `ENGINE_FAULT` (R126, R133). With no answer listed it is "no". -/
inductive EngineAnswer where
  /-- No fault: the engine computes the default `CIPHER`. -/
  | sound
  /-- The engine reports a failure of its own. -/
  | failed
  /-- The engine produces `n` bytes where the operation should produce another number (R126). -/
  | misSized (n : Nat)
deriving DecidableEq, Repr

/-- One event of the observable history (R70). -/
inductive PortEvent where
  /-- `MemRead(INS, n)` and its answer. -/
  | read (n : Nat) (bytes : List Byte) (st : RdStatus)
  /-- `MemWrite(OUTS, |bytes|, bytes)` and its answer. -/
  | write (bytes : List Byte) (accepted : Nat) (st : WrStatus)
  /-- One record on `DIAG`. -/
  | diag (record : List Byte)
deriving DecidableEq, Repr

/-- Where in the loader's string a bad group stands (R223). -/
inductive HexContext where
  | iv
  | key
deriving DecidableEq, Repr

/-- The three failures of the host's loader (R221 to R224). -/
inductive LoaderError where
  | keyTooShort
  | oddIvLength
  | badHexDigit (g0 g1 : Char) (context : HexContext)
deriving DecidableEq, Repr

/-- What the host tells its own caller (R300). -/
inductive HostReport where
  | usage
  | success
  | authenticationFailed
  | error
deriving DecidableEq, Repr

/-- What reaches the SGU from outside, in order (R40 to R42, R107, R320, R326). -/
inductive HostEvent where
  /-- A write of a 32-bit word to `CMD`, register 0 (R41). -/
  | writeCmd (w : Word)
  /-- A write of bytes to `KEY[i], KEY[i+1], ..`, register 5 (R42, R225; any run of its bytes: log 27). -/
  | writeKey (i : Nat) (bytes : List Byte)
  /-- A write of bytes to `IVMEM[i], IVMEM[i+1], ..`, register 6 (R42). -/
  | writeIv (i : Nat) (bytes : List Byte)
  /-- A write to a read-only register or to a number above 6: ignored (R40). -/
  | writeOther (num value : Nat)
  /-- A read of a register (R40). -/
  | readReg (num : Nat)
  /-- The host action `LOADKEY` (R107, R220 to R225). -/
  | loadKey (text : List Char) (size : KeySize)
  /-- The host presents an input stream at its first byte and an empty sink (R325, R326). -/
  | present (stream : InStream)
  /-- The host does nothing while the SGU takes one step. -/
  | nothing
  /-- Reset is asserted (R320, R321); `moved` bytes of a port transaction in progress had moved (U3). -/
  | reset (moved : Nat)
deriving DecidableEq, Repr

/-- What the host has learned (R40, R220, R224). -/
inductive HostSeen where
  /-- A register read answered `value`. -/
  | reg (num value : Nat)
  /-- The loader parsed an IV of `ivlen` bytes and loaded the operands. -/
  | loaded (ivlen : Nat)
  /-- The loader failed, and the host tells its caller so (R224, R300). -/
  | loadFailed (e : LoaderError) (report : HostReport)
deriving DecidableEq, Repr

/-- The environment's side of a run: no state of the SGU (R20, R61), kept beside it so that one step is a function
(log 1, 2). -/
structure Env where
  /-- `S_in` (R61). -/
  sIn : InStream
  /-- The read position `p` (R61). -/
  pos : Nat
  /-- The answers of `INS` still to come (R62). -/
  reads : List ReadAnswer
  /-- `S_out` (R65). -/
  sink : List Byte
  /-- The answers of `OUTS` still to come (R66). -/
  writes : List WriteAnswer
  /-- The observable history, oldest first (R70). -/
  history : List PortEvent
  /-- The answers of `ENGINE_FAULT` still to come (R133). -/
  engine : List EngineAnswer
  /-- What the host and the reset input do next. -/
  host : List HostEvent
  /-- What the host has learned. -/
  hostSaw : List HostSeen
deriving DecidableEq, Repr

/-- An empty well-behaved source, an empty well-behaved sink, a sound engine, a silent host (log 1, 2, 9). -/
def Env.quiet : Env := ⟨⟨[], none⟩, 0, [], [], [], [], [], [], []⟩

/-- The whole state: R20's list, then the model's own fields. -/
structure State where
  /-- The buffer registers (R21). -/
  bufs : Bufs
  /-- `FSM` (R30). -/
  fsm : Fsm
  /-- `STEP` (R31). -/
  label : Label
  /-- `LAST` (R35). -/
  last : Bool
  /-- `RD_ST` (R35). -/
  rdSt : RdStatus
  /-- `WR_ST` (R35). -/
  wrSt : WrStatus
  /-- `AUTH` (R35). -/
  auth : Bool
  /-- `RESULT` (R44). -/
  result : BitVec 8
  /-- `CNT_IN` (R45). -/
  cntIn : Nat
  /-- `CNT_OUT` (R45). -/
  cntOut : Nat
  /-- `KEY` (R42). -/
  key : Memory
  /-- `IVMEM` (R42). -/
  ivmem : Memory
  /-- `CMDL` (R41). -/
  cmdl : Word
  /-- `ctx` (R50). -/
  ctx : Ctx
  /-- `ETAG` (R51). -/
  etag : Block
  /-- MODEL'S OWN: what is left of the current driver step (log 3). -/
  pending : List Action
  /-- MODEL'S OWN: how many free bytes have been drawn (log 7). -/
  draws : Nat
  /-- The parameters, fixed at construction (R9, R46; log 11). -/
  params : Params
  /-- The environment's side (R20; log 1). -/
  env : Env
deriving DecidableEq, Repr

/-- The state right after reset (R56, R320), with the default parameters (R9) and a quiet environment. -/
def State.reset : State where
  bufs := Bufs.empty
  fsm := .idle
  label := .st0
  last := false
  rdSt := .ok
  wrSt := .ok
  auth := false
  result := 0x0F
  cntIn := 0
  cntOut := 0
  key := []
  ivmem := []
  cmdl := 0
  ctx := Ctx.zero
  etag := 0
  pending := []
  draws := 0
  params := Params.standard
  env := Env.quiet

/-- Why the machine stops with a fault: nothing does. Every error of the spec is an abort, a next state (R280, R296), and
every access of the host has an effect or is ignored (R40 to R42). -/
inductive Fault
deriving DecidableEq, Repr

/-- Why the model gives no meaning. -/
inductive Refusal where
  /-- An operation whose arm is not written; raised by `exec` alone. Safe: no claim can be proved of it. -/
  | notModelled (mnemonic : String)
  /-- Raised by `E.UPDATE` when `ctx.N + |s| > MSG_MAX`: "A model refuses a run that reaches" it (R134). Safe. -/
  | messageTooLong
deriving DecidableEq, Repr

/-- What one step answers. -/
abbrev Result := Host.Outcome State Fault Refusal

end Sys2Proof.Machine
end

