-- ==== Sys2Proof/Machine/Operands.lean ====
section
/-! DEFINITION. Operand forms: buffer registers, key selectors, operand memories, the fields of `CMDL` (R21 to R23,
R42, R92, R99, R100). -/

namespace Sys2Proof.Machine

/-- `cap(r)` (R21). -/
def cap (p : Params) : BufId → Nat
  | .in_ => p.chunk
  | .lb => Config.tagLen
  | .la => Config.tagLen
  | .x => p.chunk + Config.tagLen
  | .ct => p.chunk
  | .out => p.chunk
  | .tag => Config.tagLen

/-- `val(r)` in the register file (R23). -/
def Bufs.get (b : Bufs) : BufId → List Byte
  | .in_ => b.in_
  | .lb => b.lb
  | .la => b.la
  | .x => b.x
  | .ct => b.ct
  | .out => b.out
  | .tag => b.tag

/-- `buf[r] <- v` in the register file (R12). -/
def Bufs.set (b : Bufs) (r : BufId) (v : List Byte) : Bufs :=
  match r with
  | .in_ => { b with in_ := v }
  | .lb => { b with lb := v }
  | .la => { b with la := v }
  | .x => { b with x := v }
  | .ct => { b with ct := v }
  | .out => { b with out := v }
  | .tag => { b with tag := v }

/-- `val(r)` (R12, R23). -/
def State.buf (s : State) (r : BufId) : List Byte := s.bufs.get r

/-- `klen`: 16, 24 or 32 bytes (R7, R100). -/
def keyLen : KeySize → Nat
  | .k128 => 16
  | .k192 => 24
  | .k256 => 32

/-- The key length a `KSEL` selects; `KSEL = 3` selects none (R100). -/
def kselSize : KSel → Option KeySize
  | .k128 => some .k128
  | .k192 => some .k192
  | .k256 => some .k256
  | .krsv => none

/-- The key length `E.INIT` takes from `KSEL`, when it is in `KEY_SIZES` (R122). -/
def supportedKey (p : Params) (k : KSel) : Option Nat :=
  match kselSize k with
  | some z => if z ∈ p.keySizes then some (keyLen z) else none
  | none => none

/-- An IV length is supported iff it is in `1..IV_MAX` (R122). -/
def supportedIv (p : Params) (n : Nat) : Bool := 1 ≤ n && n ≤ p.ivMax

/-- The byte at an address of an operand memory; unlisted bytes read 0 (R56). -/
def Memory.read (m : Memory) (a : Nat) : Byte :=
  match m with
  | [] => 0
  | (x, v) :: m => if x = a then v else Memory.read m a

/-- The `n` bytes from address `a` on: `KEY[0:klen]`, `IVMEM[0:IVLEN]` (R121). -/
def Memory.slice (m : Memory) (a n : Nat) : List Byte := (List.range n).map fun i => Memory.read m (a + i)

/-- The canonical form: addresses rise strictly and no entry is 0, what an unlisted byte reads. -/
abbrev Memory.wf (m : Memory) : Prop := m.Pairwise (fun c d => c.1 < d.1) ∧ ∀ c ∈ m, c.2 ≠ 0

/-- Every address of an operand memory is below its size (R42). -/
abbrev Memory.below (m : Memory) (size : Nat) : Prop := ∀ c ∈ m, c.1 < size

/-- The size of `KEY` in bytes (R42). -/
def keyBytes : Nat := 32

/-- `CMDL.DIR` (R41, R92). -/
def State.cmdlDir (s : State) : Dir := dirOf s.cmdl
/-- `CMDL.KSEL` (R41, R92). -/
def State.cmdlKsel (s : State) : KSel := kselOf s.cmdl
/-- `CMDL.IVLEN` (R41, R92). -/
def State.cmdlIvlen (s : State) : Nat := countOf s.cmdl

end Sys2Proof.Machine
end

