-- ==== Sys2Proof/Machine/Flags.lean ====
section
/-! DEFINITION. Flags, counters, status bytes and the codes they hold (R31, R35, R43 to R45, R109, R280). -/

namespace Sys2Proof.Machine

/-- The outcome codes (R280). -/
def Code.num : Code → BitVec 4
  | .success => 0x0
  | .authenticationFailed => 0x1
  | .usageError => 0x2
  | .keyOrIvFormatError => 0x3
  | .engineInitError => 0x4
  | .ioReadError => 0x5
  | .ioWriteError => 0x6
  | .inputTooShort => 0x7
  | .transformSizeMismatch => 0x8
  | .engineTransformError => 0x9
  | .contractViolation => 0xA
  | .noOutcome => 0xF

/-- The values of `FSM` (R30). -/
def Fsm.num : Fsm → BitVec 2
  | .idle => 0
  | .streaming => 1
  | .done => 2

/-- The numbers of the step labels (R31). -/
def Label.num : Label → BitVec 6
  | .st0 => 0
  | .st1 => 1
  | .en1 => 8
  | .en2 => 9
  | .en3 => 10
  | .en4 => 11
  | .en5 => 12
  | .en6 => 13
  | .en7 => 14
  | .de1 => 16
  | .de2 => 17
  | .de3 => 18
  | .de4 => 19
  | .de5 => 20
  | .de6 => 21
  | .de7 => 22
  | .de8 => 23
  | .de9 => 24
  | .df1 => 25
  | .df2 => 26
  | .df3 => 27
  | .df4 => 28
  | .df5 => 29
  | .df6 => 30

/-- The values of `RD_ST` (R109). -/
def RdStatus.num : RdStatus → BitVec 2
  | .ok => 0
  | .eof => 1
  | .err => 2

/-- The values of `WR_ST` (R109). -/
def WrStatus.num : WrStatus → BitVec 1
  | .ok => 0
  | .err => 1

/-- `RESULT` as one byte: `{00, DIR, AUTH, CODE}` (R44). -/
def resultByte (dir : Dir) (auth : Bool) (c : Code) : BitVec 8 :=
  BitVec.ofNat 8 (dirNum dir * 32 + auth.toNat * 16 + c.num.toNat)

/-- What `STEP` reads as: 0 unless `FSM = STREAMING` (R31). -/
def State.stepNum (s : State) : BitVec 6 := if s.fsm = .streaming then s.label.num else 0

/-- `STATUS`: `STATUS[1:0] = FSM`, `STATUS[7:2] = STEP` (R43). -/
def State.status (s : State) : BitVec 8 := BitVec.ofNat 8 (s.stepNum.toNat * 4 + s.fsm.num.toNat)

/-- Write `RD_ST` (R35). -/
def State.setRdSt (s : State) (st : RdStatus) : State := { s with rdSt := st }

/-- Write `WR_ST` (R35). -/
def State.setWrSt (s : State) (st : WrStatus) : State := { s with wrSt := st }

/-- Write `AUTH` (R35). -/
def State.setAuth (s : State) (b : Bool) : State := { s with auth := b }

/-- `LAST <- (buf[IN].len < B) ? 1 : 0` (R173). -/
def State.markLast (s : State) : State := { s with last := decide ((s.buf .in_).length < s.params.chunk) }

/-- A counter of `CNT_BITS` bits, increased: it wraps (R45). -/
def countUp (p : Params) (c k : Nat) : Nat := (c + k) % 2 ^ p.cntBits

/-- `CNT_IN <- CNT_IN + k` (R160). -/
def State.countIn (s : State) (k : Nat) : State := { s with cntIn := countUp s.params s.cntIn k }

/-- `CNT_OUT <- CNT_OUT + buf[OUT].len` (R174). -/
def State.countOut (s : State) : State := { s with cntOut := countUp s.params s.cntOut (s.buf .out).length }

end Sys2Proof.Machine
end

