-- ==== Sys2Proof/Machine/Ops.lean ====
section
/-! DEFINITION. The named operations over registers, operand memories, ports and the engine's oracle; the abort
sequence (taking an error, R296) and the acceptance of a command (R170). There is no return from an abort (R299). -/

namespace Sys2Proof.Machine

/-- `buf[r] <- v` (R12). -/
def State.setBuf (s : State) (r : BufId) (v : List Byte) : State := { s with bufs := s.bufs.set r v }

/-- Every buffer length 0 (R170, R179, R296). -/
def State.clearBufs (s : State) : State := { s with bufs := Bufs.empty }

/-- Replace the engine context. -/
def State.setCtx (s : State) (c : Ctx) : State := { s with ctx := c }

/-- `ETAG <- t` (R51). -/
def State.setEtag (s : State) (t : Block) : State := { s with etag := t }

/-- The effect of `E.RELEASE`: `ctx` and `ETAG` overwritten with zeros (R131). -/
def State.scrub (s : State) : State := { s with ctx := Ctx.zero, etag := 0 }

/-- Replace what is left of the driver step. -/
def State.setPending (s : State) (p : List Action) : State := { s with pending := p }

/-- Replace the environment's side. -/
def State.setEnv (s : State) (e : Env) : State := { s with env := e }

/-- `step <- L` (R14). -/
def State.goto (s : State) (l : Label) : State := { s with label := l }

/-- A micro-operation whose blocking transaction is not answered yet stays first on the bus (R62, R66, U11). -/
def State.reissue (s : State) (i : Instr) : State := s.setPending (.op (encode i) :: s.pending)

/-- Write one byte of an operand memory and keep the canonical form. -/
def Memory.write (m : Memory) (a : Nat) (b : Byte) : Memory :=
  match m with
  | [] => if b = 0 then [] else [(a, b)]
  | (x, v) :: m =>
    if a < x then (if b = 0 then (x, v) :: m else (a, b) :: (x, v) :: m)
    else if a = x then (if b = 0 then m else (a, b) :: m)
    else (x, v) :: Memory.write m a b

/-- Write bytes from address `a` on; bytes at `size` and above do not exist and are dropped (log 12, 13). -/
def Memory.writeBytes (size : Nat) : Memory → Nat → List Byte → Memory
  | m, _, [] => m
  | m, a, b :: s => Memory.writeBytes size (if a < size then Memory.write m a b else m) (a + 1) s

/-- The abort sequence with code `c` (R296): release, empty the buffers, write `RESULT`, clear `AUTH`, `FSM <- DONE`,
`STEP <- 0`; no later part of the step is performed (R14). -/
def abort (c : Code) (s : State) : State :=
  { s with
    ctx := Ctx.zero
    etag := 0
    bufs := Bufs.empty
    result := resultByte s.cmdlDir false c
    auth := false
    fsm := .done
    label := .st0
    pending := [] }

/-- `raise K()` (R14, R296): the abort is a next state. -/
def raise (c : Code) (s : State) : Result := .next (abort c s)

/-- `violate(...)` (R14, R291). -/
def violate (s : State) : Result := raise .contractViolation s

/-- What `ST0` does before it looks at the word (R170). -/
def beginCall (s : State) : State :=
  { s with
    fsm := .streaming
    label := .st0
    result := 0x0F
    cntIn := 0
    cntOut := 0
    last := false
    auth := false
    rdSt := .ok
    wrSt := .ok
    bufs := Bufs.empty }

/-- A legal Format T word `w` written to `CMD`: ignored while busy (R41), else `ST0` accepts it (R170). -/
def acceptCommand (w : Word) (s : State) : Result :=
  if s.fsm = .streaming then .next s else .next { beginCall s with cmdl := w, label := .st1 }

/-- Any other word written to `CMD`: ignored while busy (R41), else `ST0` raises `UsageError` (R103, R170). -/
def rejectCommand (s : State) : Result :=
  if s.fsm = .streaming then .next s else raise .usageError { beginCall s with cmdl := 0 }

/-- `buf[dst] <- v` under the contract `|v| <= cap(dst)` (R140). -/
def assign (dst : BufId) (v : List Byte) (s : State) : Result :=
  if v.length ≤ cap s.params dst then .next (s.setBuf dst v) else violate s

/-- The next `n` free bytes (R14, R143). -/
def freeBytes (s : State) (n : Nat) : List Byte := (List.range n).map fun i => Config.freeByte (s.draws + i)

/-- Count `n` free bytes as drawn. -/
def State.drawn (s : State) (n : Nat) : State := { s with draws := s.draws + n }

/-- Ask `ENGINE_FAULT` (R133); with nothing listed the answer is "no". -/
def askEngine (s : State) : EngineAnswer × State :=
  match s.env.engine with
  | [] => (.sound, s)
  | a :: rest => (a, s.setEnv { s.env with engine := rest })

/-- The outcome of a blocking port transaction: not answered yet, or answered. -/
inductive PortReply (α : Type) where
  | waiting (s : State)
  | answered (a : α) (s : State)

/-- `INS` delivers up to `k` bytes, the answers after it being `rest` (R62): the position moves by what came. -/
def State.received (s : State) (n : Nat) (bytes : List Byte) (st : RdStatus) (rest : List ReadAnswer) : State :=
  s.setEnv { s.env with
    pos := s.env.pos + bytes.length
    reads := rest
    history := s.env.history ++ [.read n bytes st] }

/-- `S_in[p : p+k]`: the `k` bytes of the stream from position `p` on, fewer at the end of a finite one (R61, R62). -/
def InStream.slice (x : InStream) (p k : Nat) : List Byte :=
  let own := (x.bytes.drop p).take k
  match x.endless with
  | none => own
  | some e => own ++ (List.range (k - own.length)).map fun i => Config.endlessByte e (p + own.length + i)

/-- The next `k` bytes of the input stream (R62). -/
def State.nextInput (s : State) (k : Nat) : List Byte := s.env.sIn.slice s.env.pos k

/-- The answer of a well-behaved source to `MemRead(INS, n)`, that says `OK` on a full read (R63, log 25). -/
def soundRead (n : Nat) (s : State) (rest : List ReadAnswer) : PortReply (List Byte × RdStatus) :=
  let bytes := s.nextInput n
  let st := if bytes.length < n then RdStatus.eof else RdStatus.ok
  .answered (bytes, st) (s.received n bytes st rest)

/-- `MemRead(INS, n)` (R62, R63). -/
def memRead (n : Nat) (s : State) : PortReply (List Byte × RdStatus) :=
  match s.env.reads with
  | [] => soundRead n s []
  | .sound :: rest => soundRead n s rest
  | .wait :: rest => .waiting (s.setEnv { s.env with reads := rest })
  | .hang :: _ => .waiting s
  | .answer short st :: rest =>
    let bytes := s.nextInput (n - short)
    .answered (bytes, st) (s.received n bytes st rest)

/-- `OUTS` accepts the first `k` bytes offered, the answers after it being `rest` (R66). -/
def State.sent (s : State) (bytes : List Byte) (k : Nat) (st : WrStatus) (rest : List WriteAnswer) : State :=
  s.setEnv { s.env with
    sink := s.env.sink ++ bytes.take k
    writes := rest
    history := s.env.history ++ [.write bytes k st] }

/-- `MemWrite(OUTS, |s|, s)` (R66): answered with the number of bytes accepted and the status. -/
def memWrite (bytes : List Byte) (s : State) : PortReply (Nat × WrStatus) :=
  match s.env.writes with
  | [] => .answered (bytes.length, .ok) (s.sent bytes bytes.length .ok [])
  | .wait :: rest => .waiting (s.setEnv { s.env with writes := rest })
  | .hang :: _ => .waiting s
  | .answer short st :: rest =>
    .answered (bytes.length - short, st) (s.sent bytes (bytes.length - short) st rest)

/-- `MemWrite(DIAG, rec)`: it never blocks and never fails (R69). -/
def State.sendDiag (s : State) (record : List Byte) : State :=
  s.setEnv { s.env with history := s.env.history ++ [.diag record] }

end Sys2Proof.Machine
end

