-- ==== Sys2Proof/Machine/Buffer.lean ====
section
/-! DEFINITION. The buffer operations (R140 to R150). Sources are read before the destination is written; a failed
contract writes nothing and raises `ContractViolation` (R140). -/

namespace Sys2Proof.Machine

/-- `B.EMPTY dst` (R141). -/
def execBEmpty (dst : BufId) (s : State) : Result := .next (s.setBuf dst [])

/-- `B.FROM_ARRAY dst`: from `ETAG`, under the contract `cap(dst) = 16` (R142). -/
def execBFromArray (dst : BufId) (s : State) : Result :=
  if cap s.params dst = Config.tagLen then .next (s.setBuf dst (blockBytes s.etag)) else violate s

/-- `B.RESIZE dst, n`: growth exposes free bytes (R143). -/
def execBResize (dst : BufId) (n : Nat) (s : State) : Result :=
  if n ≤ cap s.params dst then
    let fresh := n - (s.buf dst).length
    .next ((s.setBuf dst ((s.buf dst).take n ++ freeBytes s fresh)).drawn fresh)
  else violate s

/-- `B.CONCAT dst, a, b` (R144). -/
def execBConcat (dst srca srcb : BufId) (s : State) : Result := assign dst (s.buf srca ++ s.buf srcb) s

/-- `B.HEAD dst, src, n` (R145). -/
def execBHead (dst src : BufId) (n : Nat) (s : State) : Result :=
  if n ≤ (s.buf src).length then assign dst ((s.buf src).take n) s else violate s

/-- `B.TAIL dst, src, n`: the last `n` bytes (R146). -/
def execBTail (dst src : BufId) (n : Nat) (s : State) : Result :=
  if n ≤ (s.buf src).length then assign dst ((s.buf src).drop ((s.buf src).length - n)) s else violate s

/-- `B.POP_FRONT dst, n` (R147). -/
def execBPopFront (dst : BufId) (n : Nat) (s : State) : Result :=
  if n ≤ (s.buf dst).length then .next (s.setBuf dst ((s.buf dst).drop n)) else violate s

/-- `B.POP_BACK dst, n` (R148). -/
def execBPopBack (dst : BufId) (n : Nat) (s : State) : Result :=
  if n ≤ (s.buf dst).length then .next (s.setBuf dst ((s.buf dst).take ((s.buf dst).length - n))) else violate s

/-- `B.COPY dst, src` (R149). -/
def execBCopy (dst src : BufId) (s : State) : Result := assign dst (s.buf src) s

end Sys2Proof.Machine
end

