-- ==== Sys2Proof/Machine/Command.lean ====
section
/-! DEFINITION. The host commands `ENCRYPT` and `DECRYPT` (R41, R170, R172, R190): the effect of the word itself is
step `ST0`; the steps after it are the driver's (Machine/Driver.lean). -/

namespace Sys2Proof.Machine

/-- `ENCRYPT k, ivlen` (R172). -/
def execEncrypt (k : KSel) (ivlen : Nat) (s : State) : Result := acceptCommand (encode (.encrypt k ivlen)) s

/-- `DECRYPT k, ivlen` (R190). -/
def execDecrypt (k : KSel) (ivlen : Nat) (s : State) : Result := acceptCommand (encode (.decrypt k ivlen)) s

end Sys2Proof.Machine
end

