-- ==== Sys2Proof/Machine/Aes.lean ====
section
/-! DEFINITION. The AES block function of the default `CIPHER`, forward direction (R240 to R249). -/

namespace Sys2Proof.Machine

/-- Multiplication by `x` in GF(2^8) (R242). -/
def xtime (a : Byte) : Byte := if a.getLsbD 7 then (a <<< 1) ^^^ 0x1B#8 else a <<< 1

/-- `gmul`'s loop: `k` rounds left, accumulator `p` (R242). -/
def gmulLoop : Nat → Byte → Byte → Byte → Byte
  | 0, _, _, p => p
  | k + 1, a, b, p => gmulLoop k (xtime a) (b >>> 1) (if b.getLsbD 0 then p ^^^ a else p)

/-- Multiplication in GF(2^8) (R242). -/
def gmul (a b : Byte) : Byte := gmulLoop 8 a b 0

/-- The S-box, row by row as R243 prints it. -/
def sboxRows : List (List Byte) :=
  [ [0x63, 0x7c, 0x77, 0x7b, 0xf2, 0x6b, 0x6f, 0xc5, 0x30, 0x01, 0x67, 0x2b, 0xfe, 0xd7, 0xab, 0x76],
    [0xca, 0x82, 0xc9, 0x7d, 0xfa, 0x59, 0x47, 0xf0, 0xad, 0xd4, 0xa2, 0xaf, 0x9c, 0xa4, 0x72, 0xc0],
    [0xb7, 0xfd, 0x93, 0x26, 0x36, 0x3f, 0xf7, 0xcc, 0x34, 0xa5, 0xe5, 0xf1, 0x71, 0xd8, 0x31, 0x15],
    [0x04, 0xc7, 0x23, 0xc3, 0x18, 0x96, 0x05, 0x9a, 0x07, 0x12, 0x80, 0xe2, 0xeb, 0x27, 0xb2, 0x75] ] ++
  [ [0x09, 0x83, 0x2c, 0x1a, 0x1b, 0x6e, 0x5a, 0xa0, 0x52, 0x3b, 0xd6, 0xb3, 0x29, 0xe3, 0x2f, 0x84],
    [0x53, 0xd1, 0x00, 0xed, 0x20, 0xfc, 0xb1, 0x5b, 0x6a, 0xcb, 0xbe, 0x39, 0x4a, 0x4c, 0x58, 0xcf],
    [0xd0, 0xef, 0xaa, 0xfb, 0x43, 0x4d, 0x33, 0x85, 0x45, 0xf9, 0x02, 0x7f, 0x50, 0x3c, 0x9f, 0xa8],
    [0x51, 0xa3, 0x40, 0x8f, 0x92, 0x9d, 0x38, 0xf5, 0xbc, 0xb6, 0xda, 0x21, 0x10, 0xff, 0xf3, 0xd2] ] ++
  [ [0xcd, 0x0c, 0x13, 0xec, 0x5f, 0x97, 0x44, 0x17, 0xc4, 0xa7, 0x7e, 0x3d, 0x64, 0x5d, 0x19, 0x73],
    [0x60, 0x81, 0x4f, 0xdc, 0x22, 0x2a, 0x90, 0x88, 0x46, 0xee, 0xb8, 0x14, 0xde, 0x5e, 0x0b, 0xdb],
    [0xe0, 0x32, 0x3a, 0x0a, 0x49, 0x06, 0x24, 0x5c, 0xc2, 0xd3, 0xac, 0x62, 0x91, 0x95, 0xe4, 0x79],
    [0xe7, 0xc8, 0x37, 0x6d, 0x8d, 0xd5, 0x4e, 0xa9, 0x6c, 0x56, 0xf4, 0xea, 0x65, 0x7a, 0xae, 0x08] ] ++
  [ [0xba, 0x78, 0x25, 0x2e, 0x1c, 0xa6, 0xb4, 0xc6, 0xe8, 0xdd, 0x74, 0x1f, 0x4b, 0xbd, 0x8b, 0x8a],
    [0x70, 0x3e, 0xb5, 0x66, 0x48, 0x03, 0xf6, 0x0e, 0x61, 0x35, 0x57, 0xb9, 0x86, 0xc1, 0x1d, 0x9e],
    [0xe1, 0xf8, 0x98, 0x11, 0x69, 0xd9, 0x8e, 0x94, 0x9b, 0x1e, 0x87, 0xe9, 0xce, 0x55, 0x28, 0xdf],
    [0x8c, 0xa1, 0x89, 0x0d, 0xbf, 0xe6, 0x42, 0x68, 0x41, 0x99, 0x2d, 0x0f, 0xb0, 0x54, 0xbb, 0x16] ]

/-- `SBOX[0xXY]`: row `X`, column `Y` (R243). -/
def sbox (a : Byte) : Byte := (sboxRows.getD (a.toNat / 16) []).getD (a.toNat % 16) 0

/-- Byte-wise XOR of two byte sequences. -/
def xorBytes (a b : List Byte) : List Byte := List.zipWith (fun x y => x ^^^ y) a b

/-- `SubBytes` on the 16 state bytes (R243). -/
def subBytes (s : List Byte) : List Byte := s.map sbox

/-- `ShiftRows` (R244): output byte `r + 4c` is input byte `r + 4((c + r) mod 4)`. -/
def shiftRows (s : List Byte) : List Byte :=
  (List.range 16).map fun i => s.getD (i % 4 + 4 * ((i / 4 + i % 4) % 4)) 0

/-- `MixColumns` on one column (R245). -/
def mixColumn (a0 a1 a2 a3 : Byte) : List Byte :=
  [ gmul 2 a0 ^^^ gmul 3 a1 ^^^ a2 ^^^ a3,
    a0 ^^^ gmul 2 a1 ^^^ gmul 3 a2 ^^^ a3,
    a0 ^^^ a1 ^^^ gmul 2 a2 ^^^ gmul 3 a3,
    gmul 3 a0 ^^^ a1 ^^^ a2 ^^^ gmul 2 a3 ]

/-- `MixColumns`, column by column (R241, R245). -/
def mixColumns : List Byte → List Byte
  | a0 :: a1 :: a2 :: a3 :: rest => mixColumn a0 a1 a2 a3 ++ mixColumns rest
  | _ => []

/-- `AddRoundKey` (R247). -/
def addRoundKey (s : List Byte) (k : Block) : List Byte := xorBytes s (blockBytes k)

/-- The rounds that end in `MixColumns` and their round key, in order (R248). -/
def aesRounds : List Block → List Byte → List Byte
  | [], s => s
  | k :: ks, s => aesRounds ks (addRoundKey (mixColumns (shiftRows (subBytes s))) k)

/-- `AES(RK, NR, in)` (R248). It reads `RK[0..NR]` and nothing else. -/
def aes (rk : List Block) (nr : Nat) (x : Block) : Block :=
  let s := addRoundKey (blockBytes x) (rk.getD 0 0)
  let s := aesRounds ((rk.drop 1).take (nr - 1)) s
  bytesBlock (addRoundKey (shiftRows (subBytes s)) (rk.getD nr 0))

/-- `Rcon[1..10]` (R246); index 0 is never used. -/
def rconTable : List Byte := [0x00, 0x01, 0x02, 0x04, 0x08, 0x10, 0x20, 0x40, 0x80, 0x1b, 0x36]

/-- `RotWord` (R246). -/
def rotWord (w : List Byte) : List Byte := w.drop 1 ++ w.take 1

/-- What is XORed onto `w[i-Nk]`, from `t = w[i-1]` (R246). -/
def scheduleWord (nk i : Nat) (t : List Byte) : List Byte :=
  if i % nk = 0 then xorBytes ((rotWord t).map sbox) [rconTable.getD (i / nk) 0, 0, 0, 0]
  else if nk = 8 ∧ i % nk = 4 then t.map sbox
  else t

/-- The key schedule's loop: `k` words left, the next is `w[i]`, the words so far newest first (R246). -/
def expandLoop (nk : Nat) : Nat → Nat → List (List Byte) → List (List Byte)
  | 0, _, w => w
  | k + 1, i, w => expandLoop nk k (i + 1) (xorBytes (w.getD (nk - 1) []) (scheduleWord nk i (w.headD [])) :: w)

/-- The first `k` words (4 bytes each) of a key. -/
def keyWords : Nat → List Byte → List (List Byte)
  | 0, _ => []
  | k + 1, s => s.take 4 :: keyWords k (s.drop 4)

/-- The number of rounds, `NR = Nk + 6` with `Nk = klen / 4` (R246). -/
def roundsOf (klen : Nat) : Nat := klen / 4 + 6

/-- `KeyExpansion(key)`: the round keys `RK[0..NR]` (R246). -/
def keyExpansion (key : List Byte) : List Block :=
  let nk := key.length / 4
  let nr := roundsOf key.length
  let w := expandLoop nk (4 * (nr + 1) - nk) nk (keyWords nk key).reverse
  blocksOf (nr + 1) w.reverse.flatten

end Sys2Proof.Machine
end

