-- ==== Sys2Proof/Machine/Gcm.lean ====
section
/-! DEFINITION. The GCM mode functions of the default `CIPHER` (R260 to R268). -/

namespace Sys2Proof.Machine

/-- The reduction block `R`, `int(R) = 0xE1 << 120` (R261). -/
def gcmR : Block := BitVec.ofNat 128 (0xE1 * 2 ^ 120)

/-- Multiplication of a field element by `x` (R261). -/
def mulX (v : Block) : Block := if v.getLsbD 0 then (v >>> 1) ^^^ gcmR else v >>> 1

/-- `MulH`'s loop: `k` bits of `X` left, so the next is bit `128 - k` from the left (R262). -/
def mulHLoop (x : Block) : Nat → Block → Block → Block
  | 0, z, _ => z
  | k + 1, z, v => mulHLoop x k (if x.getLsbD k then z ^^^ v else z) (mulX v)

/-- `MulH(X, H)` (R262). -/
def mulH (x h : Block) : Block := mulHLoop x 128 0 h

/-- GHASH over blocks, from an accumulator (R264). -/
def ghashBlocks (h : Block) (y : Block) (d : List Block) : Block := d.foldl (fun y d => mulH (y ^^^ d) h) y

/-- `pad16(s)` (R264). -/
def pad16 (s : List Byte) : List Byte := s ++ zeroBytes ((16 - s.length % 16) % 16)

/-- `GHASH(H, D)` for a byte sequence whose length is a multiple of 16 (R264). -/
def ghash (h : Block) (d : List Byte) : Block := ghashBlocks h 0 (blocksOf (d.length / 16) d)

/-- `DeriveJ0(H, iv)` (R265). -/
def deriveJ0 (h : Block) (iv : List Byte) : Block :=
  if iv.length = 12 then bytesBlock (iv ++ [0, 0, 0, 1])
  else ghash h (pad16 iv ++ zeroBytes 8 ++ beBytes 8 (8 * iv.length))

/-- `CtrBlock(J0, j)`: only the last 4 bytes count, modulo `2^32` (R266). -/
def ctrBlock (j0 : Block) (j : Nat) : Block :=
  BitVec.ofNat 128 (j0.toNat / 2 ^ 32 * 2 ^ 32 + (j0.toNat % 2 ^ 32 + 1 + j) % 2 ^ 32)

/-- Keystream byte `i` of a message (R125, R266). -/
def keystreamByte (rk : List Block) (nr : Nat) (j0 : Block) (i : Nat) : Byte :=
  blockByte (aes rk nr (ctrBlock j0 (i / 16))) (i % 16)

/-- The length block for `n` ciphertext bytes and no associated data (R130). -/
def lengthBlock (n : Nat) : Block := bytesBlock (beBytes 8 0 ++ beBytes 8 (8 * n))

/-- A byte sequence XORed with the keystream from index `i` on (R267). -/
def xorKeystream (rk : List Block) (nr : Nat) (j0 : Block) : Nat → List Byte → List Byte
  | _, [] => []
  | i, b :: s => (b ^^^ keystreamByte rk nr j0 i) :: xorKeystream rk nr j0 (i + 1) s

/-- The tag of a ciphertext under a key and an IV (R267). -/
def gcmTag (rk : List Block) (nr : Nat) (j0 h : Block) (c : List Byte) : Block :=
  ghash h (pad16 c ++ beBytes 8 0 ++ beBytes 8 (8 * c.length)) ^^^ aes rk nr j0

/-- `GCM(key, iv, P)`, the one-shot definition (R267): the ciphertext and the tag. -/
def gcmEncrypt (key iv p : List Byte) : List Byte × Block :=
  let rk := keyExpansion key
  let nr := roundsOf key.length
  let h := aes rk nr 0
  let j0 := deriveJ0 h iv
  let c := xorKeystream rk nr j0 0 p
  (c, gcmTag rk nr j0 h c)

/-- One-shot decryption: the plaintext and the tag computed over the ciphertext (R267). -/
def gcmDecrypt (key iv c : List Byte) : List Byte × Block :=
  let rk := keyExpansion key
  let nr := roundsOf key.length
  let h := aes rk nr 0
  let j0 := deriveJ0 h iv
  (xorKeystream rk nr j0 0 c, gcmTag rk nr j0 h c)

end Sys2Proof.Machine
end

