-- ==== Sys2Proof/Machine/Cipher.lean ====
section
/-! DEFINITION. What the engine computes on its context: init, `Update`, `Final` (R121, R125, R130). -/

namespace Sys2Proof.Machine

/-- New round keys over the old ones: entries above `NR` are not written (R246). -/
def overlayKeys (new old : List Block) : List Block := new ++ old.drop new.length

/-- The context `E.INIT` makes (R121). -/
def initCtx (c : Ctx) (dir : Dir) (key iv : List Byte) : Ctx :=
  let rk := overlayKeys (keyExpansion key) c.rk
  let nr := roundsOf key.length
  let h := aes rk nr 0
  { valid := true, dir := dir, nr := BitVec.ofNat 4 nr, rk := rk, h := h, j0 := deriveJ0 h iv,
    y := 0, n := 0, part := 0, xtag := 0, xset := false, fin := false }

/-- One byte through `Update` (R125): the output byte and the context after it. -/
def updateByte (c : Ctx) (b : Byte) : Byte × Ctx :=
  let x := b ^^^ keystreamByte c.rk c.nr.toNat c.j0 c.n
  let ci := match c.dir with
    | .enc => x
    | .dec => b
  let part := setBlockByte c.part (c.n % 16) ci
  if c.n % 16 = 15 then (x, { c with y := mulH (c.y ^^^ part) c.h, part := 0, n := c.n + 1 })
  else (x, { c with part := part, n := c.n + 1 })

/-- `Update(ctx, s)` (R125). -/
def update : Ctx → List Byte → List Byte × Ctx
  | c, [] => ([], c)
  | c, b :: s => ((updateByte c b).1 :: (update (updateByte c b).2 s).1, (update (updateByte c b).2 s).2)

/-- The tag of `Final(ctx)` (R130); the default `CIPHER` gives no trailing bytes. -/
def finalTag (c : Ctx) : Block :=
  let y := if c.n % 16 = 0 then c.y else mulH (c.y ^^^ c.part) c.h
  mulH (y ^^^ lengthBlock c.n) c.h ^^^ aes c.rk c.nr.toNat c.j0

/-- `n` bytes in place of the output `o`: the engine of R126 that does not keep the length. -/
def resized (n : Nat) (o : List Byte) : List Byte := o.take n ++ zeroBytes (n - o.length)

end Sys2Proof.Machine
end

