-- ==== Sys2Proof/Machine/Engine.lean ====
section
/-! DEFINITION. The engine operations (R120 to R136). The checks stand in the order of R295: the contract first. -/

namespace Sys2Proof.Machine

/-- The context made from the operand registers, once the lengths are supported (R121). -/
def bindEngine (dir : Dir) (klen ivlen : Nat) (s : State) : State :=
  s.setCtx (initCtx s.ctx dir (Memory.slice s.key 0 klen) (Memory.slice s.ivmem 0 ivlen))

/-- `E.INIT dir, k, ivlen` (R121, R122). -/
def execEInit (dir : Dir) (k : KSel) (ivlen : Nat) (s : State) : Result :=
  if s.ctx.valid then violate s
  else match supportedKey s.params k with
    | none => raise .engineInitError s
    | some klen =>
      if supportedIv s.params ivlen then
        match askEngine s with
        | (.failed, s) => raise .engineInitError s
        | (_, s) => .next (bindEngine dir klen ivlen s)
      else raise .engineInitError s

/-- The contract of `E.UPDATE dst, src`: R124's preconditions, and R120's order, by which no update follows an
`E.SET_TAG` (log 24). -/
abbrev updateContract (dst src : BufId) (s : State) : Prop :=
  s.ctx.valid = true ∧ s.ctx.xset = false ∧ s.ctx.fin = false ∧ (s.buf src).length ≤ cap s.params dst ∧ dst ≠ src

/-- The engine's answer to an update: the sound one is R125's; a `misSized` one has another length (R126). -/
def updateOutput (a : EngineAnswer) (o : List Byte) : List Byte :=
  match a with
  | .misSized n => resized n o
  | .sound => o
  | .failed => o

/-- `E.UPDATE dst, src` (R124 to R126, R134). -/
def execEUpdate (dst src : BufId) (s : State) : Result :=
  if ¬ updateContract dst src s then violate s
  else if Config.msgMax < s.ctx.n + (s.buf src).length then .refused .messageTooLong
  else match askEngine s with
    | (.failed, s) => raise .engineTransformError s
    | (a, s) =>
      let r := update s.ctx (s.buf src)
      let o := updateOutput a r.1
      if o.length ≠ (s.buf src).length then raise .transformSizeMismatch s
      else .next ((s.setCtx r.2).setBuf dst o)

/-- The number of trailing output bytes of a finalize step: none for the default `CIPHER` (R127, R130). -/
def trailingBytes (a : EngineAnswer) : Nat :=
  match a with
  | .misSized n => n
  | .sound => 0
  | .failed => 0

/-- The contract of `E.FINALIZE_ENC` (R127). -/
abbrev finalizeEncContract (s : State) : Prop := s.ctx.valid = true ∧ s.ctx.dir = .enc ∧ s.ctx.fin = false

/-- `E.FINALIZE_ENC` (R127). -/
def execEFinalizeEnc (s : State) : Result :=
  if ¬ finalizeEncContract s then violate s
  else match askEngine s with
    | (.failed, s) => raise .engineTransformError s
    | (a, s) =>
      if trailingBytes a ≠ 0 then raise .transformSizeMismatch s
      else .next ((s.setEtag (finalTag s.ctx)).setCtx { s.ctx with fin := true })

/-- The contract of `E.SET_TAG src`; a second one overwrites the first, as R128's corner case says (log 24). -/
abbrev setTagContract (src : BufId) (s : State) : Prop :=
  s.ctx.valid = true ∧ s.ctx.dir = .dec ∧ s.ctx.fin = false ∧ (s.buf src).length = Config.tagLen

/-- `E.SET_TAG src` (R128). -/
def execESetTag (src : BufId) (s : State) : Result :=
  if ¬ setTagContract src s then violate s
  else .next (s.setCtx { s.ctx with xtag := bytesBlock (s.buf src), xset := true })

/-- The contract of `E.FINALIZE_DEC` (R129). -/
abbrev finalizeDecContract (s : State) : Prop :=
  s.ctx.valid = true ∧ s.ctx.dir = .dec ∧ s.ctx.xset = true ∧ s.ctx.fin = false

/-- `E.FINALIZE_DEC`: a mismatch is no error, `AUTH` tells it; trailing bytes are ignored (R129, R292). -/
def execEFinalizeDec (s : State) : Result :=
  if ¬ finalizeDecContract s then violate s
  else match askEngine s with
    | (.failed, s) => raise .engineTransformError s
    | (_, s) => .next ((s.setAuth (decide (finalTag s.ctx = s.ctx.xtag))).setCtx { s.ctx with fin := true })

/-- `E.RELEASE`: no contract, it cannot fail; `AUTH` is kept (R131). -/
def execERelease (s : State) : Result := .next s.scrub

end Sys2Proof.Machine
end

