-- ==== Sys2Proof/Machine/Stream.lean ====
section
/-! DEFINITION. The stream operations (R160 to R166) and the records of `DIAG` (R108). -/

namespace Sys2Proof.Machine

/-- What `S.READ dst, n` does with an answer (R160, R161). -/
def finishRead (dst : BufId) (n : Nat) (bytes : List Byte) (st : RdStatus) (s : State) : Result :=
  let s := s.setRdSt st
  if st = .err then raise .ioReadError s
  else if bytes.length < n ∧ st ≠ .eof then raise .ioReadError s
  else .next ((s.setBuf dst bytes).countIn bytes.length)

/-- `S.READ dst, n` (R160). -/
def execSRead (dst : BufId) (n : Nat) (s : State) : Result :=
  if 1 ≤ n ∧ n ≤ cap s.params dst then
    match memRead n s with
    | .waiting s => .next (s.reissue (.sRead dst n))
    | .answered (bytes, st) s => finishRead dst n bytes st s
  else violate s

/-- What `S.WRITE` does with an answer to `m` offered bytes (R163). -/
def finishWrite (m k : Nat) (st : WrStatus) (s : State) : Result :=
  let s := s.setWrSt st
  if st = .err ∨ k < m then raise .ioWriteError s else .next s

/-- `S.WRITE src`: an empty source makes no transaction (R67, R163). -/
def execSWrite (src : BufId) (s : State) : Result :=
  if s.buf src = [] then .next s
  else match memWrite (s.buf src) s with
    | .waiting s => .next (s.reissue (.sWrite src))
    | .answered (k, st) s => finishWrite (s.buf src).length k st s

/-- The record of a kind (R108). -/
def diagRecord (kind : DiagKind) (s : State) : List Byte :=
  match kind with
  | .ivsize => 0x00 :: beBytes 2 s.cmdlIvlen
  | .counts => 0x01 :: (beBytes 8 s.cntIn ++ beBytes 8 s.cntOut)
  | .tagval => 0x02 :: s.buf .tag

/-- `S.DIAG kind`: `TAGVAL` needs a tag (R166). -/
def execSDiag (kind : DiagKind) (s : State) : Result :=
  if kind = .tagval ∧ (s.buf .tag).length ≠ Config.tagLen then violate s
  else .next (s.sendDiag (diagRecord kind s))

end Sys2Proof.Machine
end

