-- ==== Sys2Proof/Machine/Dispatch.lean ====
section
/-! DEFINITION. One arm per operation: each calls its meaning. -/

namespace Sys2Proof.Machine

def exec (i : Instr) (s : State) : Host.Outcome State Fault Refusal :=
  match i with
  | .encrypt k ivlen => Sys2Proof.Machine.execEncrypt k ivlen s
  | .decrypt k ivlen => Sys2Proof.Machine.execDecrypt k ivlen s
  | .eInit dir k ivlen => Sys2Proof.Machine.execEInit dir k ivlen s
  | .eUpdate dst src => Sys2Proof.Machine.execEUpdate dst src s
  | .eFinalizeEnc => Sys2Proof.Machine.execEFinalizeEnc s
  | .eSetTag src => Sys2Proof.Machine.execESetTag src s
  | .eFinalizeDec => Sys2Proof.Machine.execEFinalizeDec s
  | .eRelease => Sys2Proof.Machine.execERelease s
  | .bEmpty dst => Sys2Proof.Machine.execBEmpty dst s
  | .bFromArray dst => Sys2Proof.Machine.execBFromArray dst s
  | .bResize dst n => Sys2Proof.Machine.execBResize dst n s
  | .bConcat dst srca srcb => Sys2Proof.Machine.execBConcat dst srca srcb s
  | .bHead dst src n => Sys2Proof.Machine.execBHead dst src n s
  | .bTail dst src n => Sys2Proof.Machine.execBTail dst src n s
  | .bPopFront dst n => Sys2Proof.Machine.execBPopFront dst n s
  | .bPopBack dst n => Sys2Proof.Machine.execBPopBack dst n s
  | .bCopy dst src => Sys2Proof.Machine.execBCopy dst src s
  | .sRead dst n => Sys2Proof.Machine.execSRead dst n s
  | .sWrite src => Sys2Proof.Machine.execSWrite src s
  | .sDiag kind => Sys2Proof.Machine.execSDiag kind s

end Sys2Proof.Machine
end

