-- ==== Sys2Proof/Machine/Driver.lean ====
section
/-! DEFINITION. The hardwired driver: what each labelled step does, as the list of its micro-operations and register
updates in the order the step rule writes them (R171, R173 to R179, R191 to R199, R206 to R211). -/

namespace Sys2Proof.Machine

/-- Issue a micro-operation. -/
def Action.issue (i : Instr) : Action := .op (encode i)

/-- `ST1`, bind the engine (R171). -/
def stepSt1 (s : State) : List Action :=
  [.issue (.eInit s.cmdlDir s.cmdlKsel s.cmdlIvlen), .issue (.sDiag .ivsize),
   .goto (match s.cmdlDir with
     | .enc => .en1
     | .dec => .de1)]

/-- `EN1`, read a chunk (R173). -/
def stepEn1 (s : State) : List Action := [.issue (.sRead .in_ s.params.chunk), .markLast, .goto .en2]

/-- `EN2`, transform the chunk (R174). -/
def stepEn2 : List Action := [.issue (.eUpdate .out .in_), .countOut, .goto .en3]

/-- `EN3`, write the result (R175). -/
def stepEn3 : List Action := [.issue (.sWrite .out), .goto .en4]

/-- `EN4`, loop test (R176). -/
def stepEn4 (s : State) : List Action := [.goto (if s.last then .en5 else .en1)]

/-- `EN5`, finish the authentication computation (R177). -/
def stepEn5 : List Action := [.issue .eFinalizeEnc, .issue (.bFromArray .tag), .goto .en6]

/-- `EN6`, append the tag (R178). -/
def stepEn6 : List Action := [.issue (.sWrite .tag), .goto .en7]

/-- `EN7`, report, release, done (R179). -/
def stepEn7 : List Action :=
  [.issue (.sDiag .counts), .issue (.sDiag .tagval), .issue .eRelease, .complete (resultByte .enc false .success)]

/-- `DE1`, read a chunk (R191). -/
def stepDe1 (s : State) : List Action := [.issue (.sRead .in_ s.params.chunk), .goto .de2]

/-- `DE2`, full or partial (R192). -/
def stepDe2 (s : State) : List Action := [.goto (if (s.buf .in_).length = s.params.chunk then .de3 else .de9)]

/-- `DE3`, flush the lookbehind (R193). -/
def stepDe3 : List Action :=
  [.issue (.eUpdate .out .lb), .countOut, .issue (.sWrite .out), .issue (.bEmpty .lb), .goto .de4]

/-- `DE4`, the lookahead probe (R194). -/
def stepDe4 : List Action := [.issue (.sRead .la Config.tagLen), .goto .de5]

/-- `DE5`, did the probe fill (R195). -/
def stepDe5 (s : State) : List Action := [.goto (if (s.buf .la).length = Config.tagLen then .de6 else .de8)]

/-- `DE6`, the chunk is ciphertext (R196). -/
def stepDe6 : List Action := [.issue (.eUpdate .out .in_), .countOut, .issue (.sWrite .out), .goto .de7]

/-- `DE7`, rotate the window (R197). -/
def stepDe7 : List Action := [.issue (.bCopy .lb .la), .goto .de1]

/-- `DE8`, end of input inside the probe (R198). -/
def stepDe8 : List Action := [.issue (.bConcat .x .in_ .la), .goto .df1]

/-- `DE9`, end of input inside the chunk (R199). -/
def stepDe9 : List Action := [.issue (.bConcat .x .lb .in_), .goto .df1]

/-- `DF1`, the length check (R206). -/
def stepDf1 (s : State) : List Action :=
  [if (s.buf .x).length < Config.tagLen then .raise .inputTooShort else .goto .df2]

/-- `DF2`, the split (R207). -/
def stepDf2 (s : State) : List Action :=
  [.issue (.bHead .ct .x ((s.buf .x).length - Config.tagLen)), .issue (.bTail .tag .x Config.tagLen), .goto .df3]

/-- `DF3`, the tail of the ciphertext, written before the check (R208). -/
def stepDf3 : List Action := [.issue (.eUpdate .out .ct), .countOut, .issue (.sWrite .out), .goto .df4]

/-- `DF4`, set the expected tag (R209). -/
def stepDf4 : List Action := [.issue (.eSetTag .tag), .goto .df5]

/-- `DF5`, verify (R210). -/
def stepDf5 : List Action := [.issue .eFinalizeDec, .goto .df6]

/-- `DF6`, report, release, done (R211). -/
def stepDf6 (s : State) : List Action :=
  [.issue (.sDiag .counts), .issue (.sDiag .tagval), .issue .eRelease,
   .complete (if s.auth then resultByte .dec true .success else resultByte .dec false .authenticationFailed)]

/-- The driver step at `STEP` (R31, R32). `ST0` is performed whole when the command is accepted, so the driver never
finds it while `FSM = STREAMING` (log 3). -/
def driverStep (s : State) : List Action :=
  match s.label with
  | .st0 => []
  | .st1 => stepSt1 s
  | .en1 => stepEn1 s
  | .en2 => stepEn2
  | .en3 => stepEn3
  | .en4 => stepEn4 s
  | .en5 => stepEn5
  | .en6 => stepEn6
  | .en7 => stepEn7
  | .de1 => stepDe1 s
  | .de2 => stepDe2 s
  | .de3 => stepDe3
  | .de4 => stepDe4
  | .de5 => stepDe5 s
  | .de6 => stepDe6
  | .de7 => stepDe7
  | .de8 => stepDe8
  | .de9 => stepDe9
  | .df1 => stepDf1 s
  | .df2 => stepDf2 s
  | .df3 => stepDf3
  | .df4 => stepDf4
  | .df5 => stepDf5
  | .df6 => stepDf6 s

/-- The end of a call that was not aborted (R179, R211). -/
def finishCall (result : BitVec 8) (s : State) : State :=
  { s with bufs := Bufs.empty, result := result, fsm := .done, label := .st0, pending := [] }

/-- What the SGU does by itself between driver steps: while busy it takes up the step at `STEP`; otherwise it waits
(R31, R56). -/
def advanceDriver (s : State) : State := if s.fsm = .streaming then s.setPending (driverStep s) else s

end Sys2Proof.Machine
end

