-- ==== Sys2Proof/Machine/HostLoader.lean ====
section
/-! DEFINITION. The host's key and IV loader (R110, R220 to R225) and the report it owes its caller (R300). -/

namespace Sys2Proof.Machine

/-- `digit`: the value of a hex digit, either case; nothing else is one (R220). -/
def hexDigit (c : Char) : Option Nat :=
  let n := c.toNat
  if 48 ≤ n ∧ n ≤ 57 then some (n - 48)
  else if 97 ≤ n ∧ n ≤ 102 then some (n - 87)
  else if 65 ≤ n ∧ n ≤ 70 then some (n - 55)
  else none

/-- The bytes of groups of two digits, left to right; the first bad group fails (R220, R223). -/
def parseGroups (context : HexContext) : List Char → Except LoaderError (List Byte)
  | g0 :: g1 :: rest =>
    match hexDigit g0, hexDigit g1 with
    | some a, some b =>
      match parseGroups context rest with
      | .ok bytes => .ok (BitVec.ofNat 8 (16 * a + b) :: bytes)
      | .error e => .error e
    | _, _ => .error (.badHexDigit g0 g1 context)
  | _ => .ok []

/-- `parse_iv_and_key(s, kd)`: the IV and the key (R220 to R223). -/
def parseIvAndKey (text : List Char) (kd : Nat) : Except LoaderError (List Byte × List Byte) :=
  if text.length < kd then .error .keyTooShort
  else if (text.length - kd) % 2 = 1 then .error .oddIvLength
  else
    match parseGroups .iv (text.take (text.length - kd)) with
    | .error e => .error e
    | .ok iv =>
      match parseGroups .key (text.drop (text.length - kd)) with
      | .error e => .error e
      | .ok key => .ok (iv, key)

/-- The key digit count of a key size: 32, 48 or 64 (R110, R220). -/
def keyDigits (z : KeySize) : Nat := 2 * keyLen z

/-- Every failure of the loader is a sub-kind of `KeyOrIvFormatError` (R224, R283). -/
def LoaderError.code : LoaderError → Code
  | .keyTooShort => .keyOrIvFormatError
  | .oddIvLength => .keyOrIvFormatError
  | .badHexDigit _ _ _ => .keyOrIvFormatError

/-- The host's mapping of an outcome code (R300): 2 and 3, the codes of `UsageError` and of its own
`KeyOrIvFormatError`, to the usage and format report, 0 to success, 1 to authentication failed, every other to an error
that is none of the three. -/
def hostReport (code : BitVec 4) : HostReport :=
  if code = Code.usageError.num ∨ code = Code.keyOrIvFormatError.num then .usage
  else if code = Code.success.num then .success
  else if code = Code.authenticationFailed.num then .authenticationFailed
  else .error

end Sys2Proof.Machine
end

