-- ==== Sys2Proof/Machine/HostPort.lean ====
section
/-! DEFINITION. The host's side of the register port (R40 to R45), stream preparation (R326), the reset input (R320,
R321). Writes of `CMD` are in Machine/Sequencer.lean, because they run an operation. -/

namespace Sys2Proof.Machine

/-- What a read of a register answers: write-only and absent registers read 0 (R40). -/
def hostRead (s : State) (num : Nat) : Nat :=
  match num with
  | 1 => s.status.toNat
  | 2 => s.result.toNat
  | 3 => s.cntIn
  | 4 => s.cntOut
  | _ => 0

/-- The host learns something. -/
def State.saw (s : State) (x : HostSeen) : State := s.setEnv { s.env with hostSaw := s.env.hostSaw ++ [x] }

/-- Write bytes to `KEY` from byte `i` on, ignored while busy (R42); past its 32 bytes there is nothing to write (log 13).
DESIGN CHOICE: a host write may take any run of `KEY`'s bytes and keeps the others; R40 calls only `IVMEM` byte-indexed
(log 27). -/
def loadKeyBytes (i : Nat) (bytes : List Byte) (s : State) : State :=
  if s.fsm = .streaming then s else { s with key := Memory.writeBytes keyBytes s.key i bytes }

/-- Write bytes to `IVMEM`, ignored while busy (R42); past `IV_MAX` there is nothing to write (log 12). -/
def loadIvBytes (i : Nat) (bytes : List Byte) (s : State) : State :=
  if s.fsm = .streaming then s else { s with ivmem := Memory.writeBytes s.params.ivMax s.ivmem i bytes }

/-- `LOADKEY text, k` (R107, R220 to R225): on success the operands are written; on failure nothing is, and the
host makes its report. -/
def hostLoadKey (text : List Char) (z : KeySize) (s : State) : State :=
  match parseIvAndKey text (keyDigits z) with
  | .error e => s.saw (.loadFailed e (hostReport e.code.num))
  | .ok (iv, key) => (loadIvBytes 0 iv (loadKeyBytes 0 key s)).saw (.loaded iv.length)

/-- The host presents a stream at its first byte and an empty sink (R325, R326); `S_in` is fixed while a call runs
(R61, log 19). -/
def presentStreams (stream : InStream) (s : State) : State :=
  if s.fsm = .streaming then s else s.setEnv { s.env with sIn := stream, pos := 0, sink := [] }

/-- What the environment keeps of a port transaction that reset abandons: `moved` of its bytes had moved (R321, U3,
log 16). -/
def abandonTransaction (moved : Nat) (s : State) : Env :=
  match s.pending with
  | .op w :: _ =>
    match decode w with
    | .ok (.sRead _ n) => { s.env with pos := s.env.pos + (s.nextInput (min moved n)).length }
    | .ok (.sWrite src) => { s.env with sink := s.env.sink ++ (s.buf src).take moved }
    | _ => s.env
  | _ => s.env

/-- The reset input (R320, R321): every piece of the SGU's state takes its reset value, no abort sequence runs. The
parameters are the construction's, the streams are the environment's. -/
def resetInput (moved : Nat) (s : State) : State :=
  { State.reset with draws := s.draws, params := s.params, env := abandonTransaction moved s }

end Sys2Proof.Machine
end

