-- ==== Sys2Proof/Machine/Sequencer.lean ====
section
/-! DEFINITION. What one step of the machine is (R31, R32, R41, R76, R103): fetching an operation word from `CMD` or
from the internal bus, and what comes next when there is none. -/

namespace Sys2Proof.Machine

/-- A word on the internal bus: a micro-operation runs; any other word is an illegal micro-operation (R103 (b)). -/
def issueWord (w : Word) (s : State) : Result :=
  match decode w with
  | .ok i => if issuer i = .driver then exec i s else violate s
  | .error _ => violate s

/-- A word the host writes to `CMD`: a Format T word runs; any other word is a malformed command (R41, R103 (a)). -/
def commandWord (w : Word) (s : State) : Result :=
  match decode w with
  | .ok i => if issuer i = .host then exec i s else rejectCommand s
  | .error _ => rejectCommand s

/-- One action of a driver step, already taken off `pending`. -/
def runAction (a : Action) (s : State) : Result :=
  match a with
  | .op w => issueWord w s
  | .countOut => .next s.countOut
  | .markLast => .next s.markLast
  | .goto l => .next (s.goto l)
  | .raise c => raise c s
  | .complete r => .next (finishCall r s)

/-- One event from outside, already taken off `env.host` (R40 to R42, R107, R320, R326). -/
def runHostEvent (e : HostEvent) (s : State) : Result :=
  match e with
  | .writeCmd w => commandWord w s
  | .writeKey i bytes => .next (loadKeyBytes i bytes s)
  | .writeIv i bytes => .next (loadIvBytes i bytes s)
  | .writeOther _ _ => .next s
  | .readReg num => .next (s.saw (.reg num (hostRead s num)))
  | .loadKey text z => .next (hostLoadKey text z s)
  | .present stream => .next (presentStreams stream s)
  | .nothing => .next (advanceDriver s)
  | .reset moved => .next (resetInput moved s)

/-- The state with the host's script replaced. -/
def State.setHost (s : State) (h : List HostEvent) : State := s.setEnv { s.env with host := h }

/-- The host's script after an action of a driver step: one `nothing` is used up; an access waits until the driver
step is over (R32). -/
def hostAfterAction : List HostEvent → List HostEvent
  | .nothing :: rest => rest
  | h => h

/-- One step inside or between driver steps, when reset is not asserted. -/
def cycleNoReset (s : State) : Result :=
  match s.pending with
  | a :: rest => runAction a ((s.setPending rest).setHost (hostAfterAction s.env.host))
  | [] =>
    match s.env.host with
    | e :: rest => runHostEvent e (s.setHost rest)
    | [] => .next (advanceDriver s)

/-- One step: reset wins over everything (R321); then the rest of the current driver step; then the host's next
access; then the next driver step. -/
def cycle (s : State) : Result :=
  match s.env.host with
  | .reset moved :: rest => .next (resetInput moved (s.setHost rest))
  | _ => cycleNoReset s

/-- The state with an operation word placed where the next step fetches it: a host command as a write to `CMD` between
driver steps, every other word first on the internal bus (log 4). -/
def placeWord (w : Word) (s : State) : State :=
  match decode w with
  | .ok i =>
    match issuer i with
    | .host => (s.setPending []).setHost (.writeCmd w :: s.env.host)
    | .driver => (s.setPending (.op w :: s.pending)).setHost (.nothing :: s.env.host)
  | .error _ => (s.setPending (.op w :: s.pending)).setHost (.nothing :: s.env.host)

end Sys2Proof.Machine
end

