-- ==== Sys2Proof/Safety.lean ====
section
/-! DEFINITION. What counts as a safe state and a safe run, in the terms the statements use: the structural invariant,
the driver's invariant, the premises about the environment, and what output may be trusted. -/

namespace Sys2Proof.Safety

open Sys2Proof.Machine

/-- Every buffer register holds at most its capacity (R22). -/
abbrev BufsFit (p : Params) (b : Bufs) : Prop :=
  b.in_.length ≤ cap p .in_ ∧ b.lb.length ≤ cap p .lb ∧ b.la.length ≤ cap p .la ∧ b.x.length ≤ cap p .x ∧
  b.ct.length ≤ cap p .ct ∧ b.out.length ≤ cap p .out ∧ b.tag.length ≤ cap p .tag

/-- The operand memories are canonical and hold nothing past their sizes (R42). -/
abbrev OperandsOk (s : State) : Prop :=
  Memory.wf s.key ∧ Memory.below s.key keyBytes ∧ Memory.wf s.ivmem ∧ Memory.below s.ivmem s.params.ivMax

/-- The counters fit their width (R45). -/
abbrev CountersFit (s : State) : Prop := s.cntIn < 2 ^ s.params.cntBits ∧ s.cntOut < 2 ^ s.params.cntBits

/-- The context has its 15 round keys and has taken at most `MSG_MAX` bytes (R50, R134). -/
abbrev CtxFits (s : State) : Prop := s.ctx.rk.length = 15 ∧ s.ctx.n ≤ Config.msgMax

/-- When the SGU is not busy, no driver step is under way and `STEP` is 0 (R31). -/
abbrev AtRest (s : State) : Prop := s.fsm ≠ .streaming → s.pending = [] ∧ s.label = .st0

/-- The structural invariant: whatever word is on the internal bus, a step keeps it. -/
abbrev StructInv (s : State) : Prop :=
  s.params.Ok ∧ BufsFit s.params s.bufs ∧ OperandsOk s ∧ CountersFit s ∧ CtxFits s ∧ AtRest s

/-- Nothing of a call is left: buffers empty, `ctx` and `ETAG` zero (R52, R56). -/
abbrev Clean (s : State) : Prop := s.bufs = Bufs.empty ∧ s.ctx = Ctx.zero ∧ s.etag = 0

/-- The values `RESULT` can have at `DONE` when nobody but the hardwired driver issues micro-operations: R281's table
without `ContractViolation` (R215, R291). -/
def doneResults : List (BitVec 8) :=
  [0x00, 0x30, 0x21, 0x02, 0x04, 0x24, 0x05, 0x25, 0x06, 0x26, 0x27, 0x08, 0x28, 0x09, 0x29]

/-- `RESULT` is 0x0F until a call is done, and one of R281's values then. -/
abbrev ResultOk (s : State) : Prop :=
  (s.fsm ≠ .done → s.result = 0x0F) ∧ (s.fsm = .done → s.result ∈ doneResults)

/-- A context for a direction that still takes updates: no expected tag is set, and it is not finalized (R120). -/
abbrev Bound (s : State) (d : Dir) : Prop :=
  s.ctx.valid = true ∧ s.ctx.dir = d ∧ s.ctx.xset = false ∧ s.ctx.fin = false

/-- A buffer holds the bytes of the input stream that immediately precede the next unread one (R25). -/
abbrev Held (s : State) (r : BufId) : Prop :=
  (s.buf r).length ≤ s.env.pos ∧
    s.buf r = s.env.sIn.slice (s.env.pos - (s.buf r).length) (s.buf r).length

/-- `TAG` holds a whole tag. -/
abbrev TagFull (s : State) : Prop := (s.buf .tag).length = Config.tagLen

/-- The lookbehind holds no byte or a whole tag's worth (R25). -/
abbrev LbOk (s : State) : Prop := s.buf .lb = [] ∨ (s.buf .lb).length = Config.tagLen

/-- A context for decryption, and a lookbehind of 0 or 16 bytes. -/
abbrev Decrypting (s : State) : Prop := Bound s .dec ∧ LbOk s

/-- A context for decryption with its expected tag set, not finalized, and a lookbehind of 0 or 16 bytes. -/
abbrev TagExpected (s : State) : Prop :=
  (s.ctx.valid = true ∧ s.ctx.dir = .dec ∧ s.ctx.xset = true ∧ s.ctx.fin = false) ∧ LbOk s

/-- `m` actions of the step are left: what holds then, at each label. `m = 0` is before the step begins, and so is
`m` = the whole length of the step. -/
def PhaseAt (s : State) (m : Nat) : Prop :=
  match s.label with
  | .st0 => False
  | .st1 => if m = 1 ∨ m = 2 then Bound s s.cmdlDir ∧ s.buf .lb = [] else s.ctx.valid = false ∧ s.buf .lb = []
  | .en1 => Bound s .enc
  | .en2 => Bound s .enc
  | .en3 => Bound s .enc
  | .en4 => Bound s .enc
  | .en5 => if m = 1 then TagFull s else if m = 2 then True else Bound s .enc
  | .en6 => TagFull s
  | .en7 => if m = 1 then s.ctx = Ctx.zero ∧ s.etag = 0 else TagFull s
  | .de1 => Decrypting s ∧ (m ≠ 1 → Held s .lb)
  | .de2 => Decrypting s
  | .de3 => Decrypting s ∧ (m = 1 → s.buf .lb = [])
  | .de4 => Decrypting s ∧ s.buf .lb = [] ∧ (m = 1 → Held s .la)
  | .de5 => Decrypting s ∧ s.buf .lb = [] ∧ Held s .la
  | .de6 => Decrypting s ∧ s.buf .lb = [] ∧ (s.buf .la).length = Config.tagLen ∧ Held s .la
  | .de7 => Decrypting s ∧ (s.buf .la).length = Config.tagLen ∧ Held s .la ∧ (m = 1 → Held s .lb)
  | .de8 => Decrypting s
  | .de9 => Decrypting s
  | .df1 => Decrypting s
  | .df2 => Decrypting s ∧ Config.tagLen ≤ (s.buf .x).length ∧ (m = 1 → TagFull s)
  | .df3 => Decrypting s ∧ TagFull s
  | .df4 => TagFull s ∧ if m = 1 then TagExpected s else Decrypting s
  | .df5 => TagFull s ∧ (m ≠ 1 → TagExpected s)
  | .df6 => if m = 1 then s.ctx = Ctx.zero ∧ s.etag = 0 else TagFull s

/-- The direction a label belongs to (R31); the two start steps belong to both. -/
def labelDir : Label → Option Dir
  | .st0 | .st1 => none
  | .en1 | .en2 | .en3 | .en4 | .en5 | .en6 | .en7 => some .enc
  | .de1 | .de2 | .de3 | .de4 | .de5 | .de6 | .de7 | .de8 | .de9 => some .dec
  | .df1 | .df2 | .df3 | .df4 | .df5 | .df6 => some .dec

/-- While busy, what is left of the step is an end of the hardwired step at `STEP`, the label belongs to the direction
of the command, and the label's facts hold. -/
abbrev OnTrack (s : State) : Prop :=
  s.pending <:+ driverStep s ∧ (∀ d, labelDir s.label = some d → s.cmdlDir = d) ∧ PhaseAt s s.pending.length

/-- The driver's invariant: the structural one, nothing left of a call when the SGU is not busy, `RESULT` as R281 says,
and the driver on its track when it is. -/
def DriverInv (s : State) : Prop :=
  StructInv s ∧ (s.fsm ≠ .streaming → Clean s) ∧ ResultOk s ∧ (s.fsm = .streaming → OnTrack s)

/-- `WellBehavedSource` from here on (R63): a finite stream, and answers that deliver all that is asked for and there,
with `EOF` when that is fewer bytes than asked for; a full read says `OK` or `EOF`, as the list has it, and `OK` once the
list is used up (log 25). It may let a read wait. -/
abbrev WellBehavedSource (s : State) : Prop :=
  s.env.sIn.endless = none ∧ ∀ a ∈ s.env.reads, a = .wait ∨ a = .sound ∨ a = .answer 0 .eof

/-- `WellBehavedSink` from here on (R66): every answer accepts all that is offered. It may let a write wait. -/
abbrev WellBehavedSink (s : State) : Prop := ∀ a ∈ s.env.writes, a = .wait ∨ a = .answer 0 .ok

/-- Both launch premises, and the default `ENGINE_FAULT` (R133). -/
abbrev WellBehaved (s : State) : Prop :=
  WellBehavedSource s ∧ WellBehavedSink s ∧ ∀ a ∈ s.env.engine, a = .sound

/-- The operations that use `DST` (R98, R106). -/
def dstMnemonics : List String :=
  ["E.UPDATE", "B.EMPTY", "B.FROM_ARRAY", "B.RESIZE", "B.CONCAT", "B.HEAD", "B.TAIL", "B.POP_FRONT", "B.POP_BACK",
   "B.COPY", "S.READ"]

/-- The operations that use `SRCA` (R98, R106). -/
def srcaMnemonics : List String := ["E.UPDATE", "E.SET_TAG", "B.CONCAT", "B.HEAD", "B.TAIL", "B.COPY", "S.WRITE"]

/-- A word, taken as the operation of a mnemonic, names buffer id 7 in a field that the operation uses (R99, R103). -/
abbrev NamesReservedBuffer (m : String) (w : Word) : Prop :=
  (m ∈ dstMnemonics ∧ field w 21 3 = 7) ∨ (m ∈ srcaMnemonics ∧ field w 18 3 = 7) ∨
  (m = "B.CONCAT" ∧ field w 15 3 = 7)

/-- A word, taken as the operation of a mnemonic, names the reserved kind 3 (R101, R103). -/
abbrev NamesReservedKind (m : String) (w : Word) : Prop := m = "S.DIAG" ∧ field w 0 2 = 3

/-- The outcome code of `RESULT` (R44). -/
def resultCode (r : BitVec 8) : BitVec 4 := BitVec.ofNat 4 (r.toNat % 16)

/-- The output of a decryption may be trusted only then (R216, R298, R337). -/
abbrev Trusted (s : State) : Prop := s.fsm = .done ∧ s.result = 0x30

/-- Every byte of the operand memories reads as before. -/
abbrev OperandsKept (s t : State) : Prop :=
  ∀ a, Memory.read t.key a = Memory.read s.key a ∧ Memory.read t.ivmem a = Memory.read s.ivmem a

/-- Everything but the buffer registers is as before. -/
abbrev OnlyBufs (s t : State) : Prop := { t with bufs := s.bufs } = s

/-- Every buffer register but one holds what it held. -/
abbrev OtherBufsKept (dst : BufId) (s t : State) : Prop := ∀ r, r ≠ dst → t.buf r = s.buf r

/-- Everything but one buffer register is as before, every operand byte too. -/
abbrev OnlyBuf (dst : BufId) (s t : State) : Prop := OnlyBufs s t ∧ OtherBufsKept dst s t ∧ OperandsKept s t

/-- `t` is what the abort sequence with code `c` makes of `s` (R296): `ctx` and `ETAG` scrubbed, the buffers empty,
`RESULT` written, `AUTH` cleared, `FSM = DONE`, `STEP = 0`, no later part of the step, and everything else kept. -/
abbrev Aborted (c : Code) (s t : State) : Prop :=
  t.ctx = Ctx.zero ∧ t.etag = 0 ∧ t.bufs = Bufs.empty ∧ t.result = resultByte s.cmdlDir false c ∧ t.auth = false ∧
  t.fsm = .done ∧ t.label = .st0 ∧ t.pending = [] ∧
  { t with ctx := s.ctx, etag := s.etag, bufs := s.bufs, result := s.result, auth := s.auth, fsm := s.fsm,
           label := s.label, pending := s.pending } = s

/-- An operation whose contract fails aborts with `ContractViolation` and has had no effect of its own (R140, R291). -/
abbrev Violates (i : Instr) (s : State) : Prop := ∃ t, exec i s = .next t ∧ Aborted .contractViolation s t

/-- The SGU's own state is that of reset, with the unit's parameters (R56, R320); the environment and the model's
draw counter aside. -/
abbrev SguReset (p : Params) (t : State) : Prop :=
  { t with env := Env.quiet, draws := 0 } = { State.reset with params := p }

end Sys2Proof.Safety
end

