-- ==== Sys2Proof/Certificates/Slice0/Obligations.lean ====
section
/-! DEFINITION. The statements for the provers, from the numbered rules of spec/. -/

open Sys2Proof Sys2Proof.Machine Sys2Proof.Safety

/-! ### Encoding -/

/-- R111: decoding the word of a well-formed operation gives the operation back, every operand at every value. -/
def Obligations.DecodeAfterEncode : Prop := ∀ i : Instr, WellFormed i → decode (encode i) = .ok i

/-- R111: encoding what a legal word decodes to gives the word back, so no bit of a legal word is ignored. -/
def Obligations.EncodeAfterDecode : Prop := ∀ (w : Word) (i : Instr), decode w = .ok i → WellFormed i ∧ encode i = w

/-- R98: a legal word matches, under the mask, the row of the opcode table of the operation it decodes to. -/
def Obligations.LegalWordMatchesItsRow : Prop :=
  ∀ (w : Word) (i : Instr), decode w = .ok i →
    ∃ r ∈ opcodeTable, r.mnemonic = mnemonic i ∧ w &&& r.mask = r.pattern

/-- R98, R103: a word that matches a row decodes to an operation of that row, unless a buffer id field that the row's
operation uses is 7, or its kind is 3: then, and only then, the decoder refuses it, and names that. -/
def Obligations.MatchingWordDecodesOrIsReserved : Prop :=
  ∀ (w : Word) (r : OpRow), r ∈ opcodeTable → w &&& r.mask = r.pattern →
    (¬ NamesReservedBuffer r.mnemonic w → ¬ NamesReservedKind r.mnemonic w →
      ∃ i, decode w = .ok i ∧ mnemonic i = r.mnemonic) ∧
    (NamesReservedBuffer r.mnemonic w → decode w = .error .reservedBuffer) ∧
    (NamesReservedKind r.mnemonic w → decode w = .error .reservedKind)

/-- A few of the words that 95_test_vectors.md table 2.1 writes out, and what they stand for. -/
def Obligations.SampleWordsDecode : Prop :=
  decode 0x0140000C = .ok (.encrypt .k256 12) ∧ decode 0x01A0FFFF = .ok (.decrypt .k192 65535) ∧
  decode 0x10C0000C = .ok (.eInit .dec .k256 12) ∧ decode 0x11B00000 = .ok (.eUpdate .out .ct) ∧
  decode 0x248C0011 = .ok (.bHead .ct .x 17) ∧ decode 0x23610000 = .ok (.bConcat .x .in_ .la) ∧
  decode 0x30001000 = .ok (.sRead .in_ 4096) ∧ decode 0x32000002 = .ok (.sDiag .tagval) ∧
  decode 0x23E40000 = .error .reservedBuffer ∧ decode 0x32000003 = .error .reservedKind ∧
  decode 0x0141000C = .error .reservedBits ∧ decode 0xFFFFFFFF = .error .unassignedOpcode

/-! ### Steps and the host -/

/-- R90, R103: a micro-operation word first on the internal bus is what the next step runs, unless reset is asserted. -/
def Obligations.StepRunsIssuedOperation : Prop :=
  ∀ (s : State) (w : Word) (rest : List Action) (i : Instr),
    s.pending = .op w :: rest → (∀ m h, s.env.host ≠ .reset m :: h) → decode w = .ok i → issuer i = .driver →
      step s = exec i ((s.setPending rest).setHost (hostAfterAction s.env.host))

/-- R41, R92: between driver steps, a Format T word the host writes to `CMD` is what the next step runs. -/
def Obligations.StepRunsHostCommand : Prop :=
  ∀ (s : State) (w : Word) (h : List HostEvent) (i : Instr),
    s.pending = [] → s.env.host = .writeCmd w :: h → decode w = .ok i → issuer i = .host →
      step s = exec i (s.setHost h)

/-- R103 (a), R170: a word that is no legal Format T word ends its call at once with `UsageError`, touches no stream
and leaves the operand registers alone. -/
def Obligations.MalformedCommandIsUsageError : Prop :=
  ∀ (s : State) (w : Word) (h : List HostEvent),
    s.pending = [] → s.env.host = .writeCmd w :: h → s.fsm ≠ .streaming →
    (∀ i, decode w = .ok i → issuer i = .driver) →
      ∃ t, step s = .next t ∧ t.fsm = .done ∧ t.label = .st0 ∧ t.result = 0x02 ∧ t.cmdl = 0 ∧ t.cntIn = 0 ∧
        t.cntOut = 0 ∧ t.last = false ∧ t.auth = false ∧ t.rdSt = .ok ∧ t.wrSt = .ok ∧ Clean t ∧ t.pending = [] ∧
        t.key = s.key ∧ t.ivmem = s.ivmem ∧ t.params = s.params ∧ t.draws = s.draws ∧
        t.env = { s.env with host := h }

/-- R103 (b): a word on the internal bus that is no micro-operation is a contract violation (that a host command's word
there counts as one is the model's choice, log 5). -/
def Obligations.IllegalIssuedWordViolates : Prop :=
  ∀ (s : State) (w : Word) (rest : List Action),
    s.pending = .op w :: rest → (∀ m h, s.env.host ≠ .reset m :: h) → (∀ i, decode w = .ok i → issuer i = .host) →
      ∃ t, step s = .next t ∧
        Aborted .contractViolation ((s.setPending rest).setHost (hostAfterAction s.env.host)) t

/-- R40, R41, R42: while busy, writes to `CMD`, `IVMEM` and `KEY` are ignored, whatever is written and wherever; a write
to another register always is. -/
def Obligations.BusyWritesIgnored : Prop :=
  ∀ (s : State) (e : HostEvent) (h : List HostEvent),
    s.pending = [] → s.env.host = e :: h →
      ((∃ num v, e = .writeOther num v) ∨
       (s.fsm = .streaming ∧
        ((∃ w, e = .writeCmd w) ∨ (∃ i b, e = .writeIv i b) ∨ ∃ i b, e = .writeKey i b))) →
        step s = .next (s.setHost h)

/-- R40, R43: what each register number answers to a host read; reading has no other effect. -/
def Obligations.HostReadAnswers : Prop :=
  ∀ (s : State) (num : Nat) (h : List HostEvent), s.pending = [] → s.env.host = .readReg num :: h →
    step s = .next (s.setEnv { s.env with
      host := h
      hostSaw := s.env.hostSaw ++ [.reg num
        (match num with
         | 1 => (if s.fsm = .streaming then s.label.num.toNat * 4 else 0) + s.fsm.num.toNat
         | 2 => s.result.toNat
         | 3 => s.cntIn
         | 4 => s.cntOut
         | _ => 0)] })

/-- R42: a host write to `KEY` or `IVMEM` while the SGU is not busy stores exactly the bytes written and changes nothing
else. That bytes past the 32 of `KEY` and the `IV_MAX` of `IVMEM` are dropped is the model's reading (logs 12, 13); that a
host write may take any run of `KEY`'s bytes, the others kept, is the model's choice (DESIGN CHOICE, log 27). -/
def Obligations.OperandWritesStore : Prop :=
  ∀ (s : State) (i : Nat) (bytes : List Byte) (h : List HostEvent), s.pending = [] → s.fsm ≠ .streaming →
    (s.env.host = .writeKey i bytes :: h → Memory.wf s.key →
      ∃ t, step s = .next t ∧ { t with key := s.key } = s.setHost h ∧
        ∀ a, Memory.read t.key a =
          if i ≤ a ∧ a < i + bytes.length ∧ a < 32 then bytes.getD (a - i) 0 else Memory.read s.key a) ∧
    (s.env.host = .writeIv i bytes :: h → Memory.wf s.ivmem →
      ∃ t, step s = .next t ∧ { t with ivmem := s.ivmem } = s.setHost h ∧
        ∀ a, Memory.read t.ivmem a =
          if i ≤ a ∧ a < i + bytes.length ∧ a < s.params.ivMax then bytes.getD (a - i) 0
          else Memory.read s.ivmem a)

/-- R220 to R223: the loader's outcomes: too short first, then an odd prefix, then the first group that is not two digits,
with the part of the text it stands in; on success the text is split at the key digit count and each byte is the value
of its two digits, high nibble first. -/
def Obligations.LoaderOutcomes : Prop :=
  ∀ (text : List Char) (kd : Nat), (kd = 32 ∨ kd = 48 ∨ kd = 64) →
    (text.length < kd → parseIvAndKey text kd = .error .keyTooShort) ∧
    (kd ≤ text.length → (text.length - kd) % 2 = 1 → parseIvAndKey text kd = .error .oddIvLength) ∧
    (∀ iv key, parseIvAndKey text kd = .ok (iv, key) →
      kd ≤ text.length ∧ key.length = kd / 2 ∧ iv.length = (text.length - kd) / 2 ∧
        (∀ c ∈ text, (hexDigit c).isSome = true) ∧
        ∀ i a b, hexDigit (text.getD (2 * i) ' ') = some a → hexDigit (text.getD (2 * i + 1) ' ') = some b →
          (iv ++ key).getD i 0 = BitVec.ofNat 8 (16 * a + b)) ∧
    (kd ≤ text.length → (text.length - kd) % 2 = 0 →
      ((∀ c ∈ text, (hexDigit c).isSome = true) → ∃ iv key, parseIvAndKey text kd = .ok (iv, key)) ∧
      ∀ j g0 g1, 2 * j + 1 < text.length → g0 = text.getD (2 * j) ' ' → g1 = text.getD (2 * j + 1) ' ' →
        (∀ c ∈ text.take (2 * j), (hexDigit c).isSome = true) → (hexDigit g0 = none ∨ hexDigit g1 = none) →
          parseIvAndKey text kd = .error (.badHexDigit g0 g1 (if 2 * j < text.length - kd then .iv else .key)))

/-- R224, R225: after a successful parse, `LOADKEY` leaves the key in `KEY[0:kd/2]` and the IV in `IVMEM[0:|iv|]`, as far
as `IVMEM` reaches (log 12), and every other byte of the two as it was (of `KEY`: log 27); after a failed one it writes
nothing, and the host makes the usage and format report (R300). -/
def Obligations.LoadKeyStoresOperands : Prop :=
  ∀ (s : State) (text : List Char) (z : KeySize) (h : List HostEvent),
    s.pending = [] → s.fsm ≠ .streaming → Memory.wf s.key → Memory.wf s.ivmem →
    s.env.host = .loadKey text z :: h →
    (∀ iv key, parseIvAndKey text (keyDigits z) = .ok (iv, key) →
      ∃ t, step s = .next t ∧ Memory.slice t.key 0 (keyLen z) = key ∧
        (∀ a, Memory.read t.key a = if a < keyLen z then key.getD a 0 else Memory.read s.key a) ∧
        (∀ a, Memory.read t.ivmem a =
          if a < iv.length ∧ a < s.params.ivMax then iv.getD a 0 else Memory.read s.ivmem a) ∧
        { t with key := s.key, ivmem := s.ivmem } =
          s.setEnv { s.env with host := h, hostSaw := s.env.hostSaw ++ [.loaded iv.length] }) ∧
    ∀ e, parseIvAndKey text (keyDigits z) = .error e →
      step s = .next (s.setEnv { s.env with host := h, hostSaw := s.env.hostSaw ++ [.loadFailed e .usage] })

/-! ### Reset and invariants -/

/-- R56: the values of the state after reset. -/
def Obligations.ResetValues : Prop :=
  State.reset.fsm = .idle ∧ State.reset.label.num = 0 ∧ State.reset.last = false ∧ State.reset.auth = false ∧
  State.reset.wrSt = .ok ∧ State.reset.rdSt = .ok ∧ State.reset.result = 0x0F ∧ State.reset.cntIn = 0 ∧
  State.reset.cntOut = 0 ∧ (∀ a, Memory.read State.reset.key a = 0 ∧ Memory.read State.reset.ivmem a = 0) ∧
  State.reset.cmdl = 0 ∧ (∀ r, (State.reset.buf r).length = 0) ∧ State.reset.ctx = Ctx.zero ∧ State.reset.etag = 0 ∧
  State.reset.status = 0

/-- R320, R321: reset, asserted at any point, also inside a driver step, puts the SGU's whole state to the reset values;
no abort sequence runs and no port event is added. -/
def Obligations.ResetInputResets : Prop :=
  ∀ (s : State) (moved : Nat) (h : List HostEvent), s.env.host = .reset moved :: h →
    ∃ t, step s = .next t ∧ SguReset s.params t ∧ t.env.history = s.env.history ∧ t.env.sIn = s.env.sIn ∧
      t.env.host = h

/-- Both invariants hold at reset. -/
def Obligations.InvariantsHoldAtReset : Prop := StructInv State.reset ∧ DriverInv State.reset

/-- R22, R42, R45, R134, R31: whatever words are on the internal bus, every step keeps the structural invariant:
capacities, canonical operand memories within their sizes, counter widths, `ctx.N <= MSG_MAX`, nothing pending at
rest. -/
def Obligations.StepKeepsStructInv : Prop := ∀ s t : State, StructInv s → step s = .next t → StructInv t

/-- R25, R52, R215, R281: with the hardwired driver every step keeps the driver's invariant, whatever the host and the
streams do. -/
def Obligations.StepKeepsDriverInv : Prop := ∀ s t : State, DriverInv s → step s = .next t → DriverInv t

/-- R52, R291, R44: along every run from a state of the driver's invariant, `ctx` and `ETAG` are zero and the buffers
empty whenever the SGU is not busy, `RESULT` never reports `ContractViolation`, and `RESULT[4]` is set only in 0x30. -/
def Obligations.RunsNeverViolateAndAlwaysScrub : Prop :=
  ∀ (n : Nat) (s t : State), DriverInv s → Sys2Proof.core.run n s = .next t →
    (t.fsm ≠ .streaming → Clean t) ∧ resultCode t.result ≠ Code.contractViolation.num ∧
    (t.result.getLsbD 4 = true → t.result = 0x30)

/-- R322: what a command does depends on the operand registers, the parameters and the environment, never on an
earlier call: two rests of the driver that agree on those answer a host command with one and the same state. -/
def Obligations.CallsAreIndependent : Prop :=
  ∀ (i : Instr) (s t : State), issuer i = .host → DriverInv s → DriverInv t → s.fsm ≠ .streaming →
    t.fsm ≠ .streaming → s.key = t.key → s.ivmem = t.ivmem → s.params = t.params → s.env = t.env →
    s.draws = t.draws → exec i s = exec i t

/-! ### Host commands -/

/-- R170, R41: `ENCRYPT` and `DECRYPT`: accepted when the SGU is not busy, with the per-call state cleared and the word
latched; ignored while it is busy. -/
def Obligations.CommandsStartACall : Prop :=
  ∀ (i : Instr) (k : KSel) (n : Nat) (s : State), (i = .encrypt k n ∨ i = .decrypt k n) →
    (s.fsm = .streaming → exec i s = .next s) ∧
    (s.fsm ≠ .streaming →
      ∃ t, exec i s = .next t ∧ t.fsm = .streaming ∧ t.label = .st1 ∧ t.result = 0x0F ∧ t.cntIn = 0 ∧ t.cntOut = 0 ∧
        t.last = false ∧ t.auth = false ∧ t.rdSt = .ok ∧ t.wrSt = .ok ∧ t.bufs = Bufs.empty ∧ t.cmdl = encode i ∧
        t.ctx = s.ctx ∧ t.etag = s.etag ∧ OperandsKept s t ∧ t.env = s.env ∧ t.params = s.params ∧
        t.draws = s.draws ∧ t.pending = s.pending ∧
        (Fits16 n → t.cmdlKsel = k ∧ t.cmdlIvlen = n ∧ (t.cmdlDir = .enc ↔ i = .encrypt k n)))

/-! ### Engine operations -/

/-- R121: `E.INIT` with supported lengths binds the engine: round keys, hash subkey, pre-counter block, everything else
of `ctx` as the rule writes it; entries of `RK` above `NR` and everything outside `ctx` are kept. -/
def Obligations.EInitBindsEngine : Prop :=
  ∀ (d : Dir) (k : KSel) (z : KeySize) (n : Nat) (s : State),
    s.ctx.valid = false → s.env.engine = [] → kselSize k = some z → z ∈ s.params.keySizes → 1 ≤ n →
    n ≤ s.params.ivMax →
      ∃ t, exec (.eInit d k n) s = .next t ∧ { t with ctx := s.ctx } = s ∧ OperandsKept s t ∧
        t.ctx.valid = true ∧ t.ctx.dir = d ∧ t.ctx.nr.toNat = keyLen z / 4 + 6 ∧
        t.ctx.rk.take (t.ctx.nr.toNat + 1) = keyExpansion (Memory.slice s.key 0 (keyLen z)) ∧
        t.ctx.rk.drop (t.ctx.nr.toNat + 1) = s.ctx.rk.drop (t.ctx.nr.toNat + 1) ∧
        t.ctx.h = aes t.ctx.rk t.ctx.nr.toNat 0 ∧ t.ctx.j0 = deriveJ0 t.ctx.h (Memory.slice s.ivmem 0 n) ∧
        t.ctx.y = 0 ∧ t.ctx.n = 0 ∧ t.ctx.part = 0 ∧ t.ctx.xtag = 0 ∧ t.ctx.xset = false ∧ t.ctx.fin = false

/-- R122: an unsupported key length or IV length makes `E.INIT` abort with `EngineInitError`. -/
def Obligations.EInitRejectsUnsupported : Prop :=
  ∀ (d : Dir) (k : KSel) (n : Nat) (s : State), s.ctx.valid = false →
    ((∀ z, kselSize k = some z → z ∉ s.params.keySizes) ∨ n = 0 ∨ s.params.ivMax < n) →
      ∃ t, exec (.eInit d k n) s = .next t ∧ Aborted .engineInitError s t

/-- R124, R120: `E.UPDATE` under its contract, in R120's order, and within `MSG_MAX` writes as many bytes as it reads,
moves the context on by them, and changes nothing else; the source keeps its value. -/
def Obligations.EUpdateTransforms : Prop :=
  ∀ (dst src : BufId) (s : State), s.ctx.valid = true → s.ctx.xset = false → s.ctx.fin = false →
    (s.buf src).length ≤ cap s.params dst → dst ≠ src → s.ctx.n + (s.buf src).length ≤ Config.msgMax →
    s.env.engine = [] →
      ∃ t, exec (.eUpdate dst src) s = .next t ∧ t.buf dst = (update s.ctx (s.buf src)).1 ∧
        (t.buf dst).length = (s.buf src).length ∧ t.ctx = (update s.ctx (s.buf src)).2 ∧
        t.ctx.n = s.ctx.n + (s.buf src).length ∧
        { t.ctx with y := s.ctx.y, n := s.ctx.n, part := s.ctx.part } = s.ctx ∧
        OtherBufsKept dst s t ∧ OperandsKept s t ∧ { t with bufs := s.bufs, ctx := s.ctx } = s

/-- R134: past `MSG_MAX` the model refuses the run; it neither aborts nor computes on. (That is for an update under its
contract, so before any `E.SET_TAG`: R120.) -/
def Obligations.EUpdateRefusesPastMsgMax : Prop :=
  ∀ (dst src : BufId) (s : State), s.ctx.valid = true → s.ctx.xset = false → s.ctx.fin = false →
    (s.buf src).length ≤ cap s.params dst → dst ≠ src → Config.msgMax < s.ctx.n + (s.buf src).length →
      exec (.eUpdate dst src) s = .refused .messageTooLong

/-- R127, R130: `E.FINALIZE_ENC` puts the tag of the context in `ETAG` and marks the context finalized; nothing else
changes. -/
def Obligations.EFinalizeEncMakesTag : Prop :=
  ∀ s : State, s.ctx.valid = true → s.ctx.dir = .enc → s.ctx.fin = false → s.env.engine = [] →
    ∃ t, exec .eFinalizeEnc s = .next t ∧
      t.etag = mulH ((if s.ctx.n % 16 = 0 then s.ctx.y else mulH (s.ctx.y ^^^ s.ctx.part) s.ctx.h) ^^^
        bytesBlock (beBytes 8 0 ++ beBytes 8 (8 * s.ctx.n))) s.ctx.h ^^^ aes s.ctx.rk s.ctx.nr.toNat s.ctx.j0 ∧
      t.ctx = { s.ctx with fin := true } ∧ OperandsKept s t ∧ { t with etag := s.etag, ctx := s.ctx } = s

/-- R128: `E.SET_TAG` takes the 16 bytes of its source as the expected tag, in their order; nothing else changes.
(So does a second one, by R128's corner case, though R120's order has one: DEDUCED, log 24.) -/
def Obligations.ESetTagSetsExpectedTag : Prop :=
  ∀ (src : BufId) (s : State), s.ctx.valid = true → s.ctx.dir = .dec → s.ctx.fin = false →
    (s.buf src).length = 16 →
      ∃ t, exec (.eSetTag src) s = .next t ∧ blockBytes t.ctx.xtag = s.buf src ∧ t.ctx.xset = true ∧
        { t.ctx with xtag := s.ctx.xtag, xset := s.ctx.xset } = s.ctx ∧ OperandsKept s t ∧ { t with ctx := s.ctx } = s

/-- R129, R292: `E.FINALIZE_DEC` sets `AUTH` exactly when the computed tag is the expected one; a mismatch is a next
state like a match; nothing but `AUTH` and `ctx.FIN` changes. -/
def Obligations.EFinalizeDecVerifies : Prop :=
  ∀ s : State, s.ctx.valid = true → s.ctx.dir = .dec → s.ctx.xset = true → s.ctx.fin = false → s.env.engine = [] →
    ∃ t, exec .eFinalizeDec s = .next t ∧ (t.auth = true ↔ finalTag s.ctx = s.ctx.xtag) ∧
      t.ctx = { s.ctx with fin := true } ∧ OperandsKept s t ∧ { t with auth := s.auth, ctx := s.ctx } = s

/-- R131: `E.RELEASE` overwrites every field of `ctx` and `ETAG` with zeros in every state, and changes nothing else
(`AUTH` is kept). -/
def Obligations.EReleaseScrubs : Prop :=
  ∀ s : State, ∃ t, exec .eRelease s = .next t ∧ t.ctx.valid = false ∧ t.ctx = Ctx.zero ∧ t.etag = 0 ∧
    (∀ k ∈ t.ctx.rk, k = 0) ∧ OperandsKept s t ∧ { t with ctx := s.ctx, etag := s.etag } = s

/-- R120, R121, R124, R127, R128, R129, R291: an engine operation whose preconditions fail is a contract violation; so is
an update after `E.SET_TAG`, by R120's order, although R124 does not name `XSET` (DEDUCED, log 24). The exception to
R120's order is a second `E.SET_TAG`: it completes and overwrites the first, by R128's corner case (log 24), and is none
of these cases; ESetTagSetsExpectedTag says what it does. -/
def Obligations.EngineOrderViolations : Prop :=
  ∀ s : State,
    (∀ d k n, s.ctx.valid = true → Violates (.eInit d k n) s) ∧
    (∀ dst src, (s.ctx.valid = false ∨ s.ctx.xset = true ∨ s.ctx.fin = true ∨ cap s.params dst < (s.buf src).length ∨ dst = src) →
      Violates (.eUpdate dst src) s) ∧
    ((s.ctx.valid = false ∨ s.ctx.dir = .dec ∨ s.ctx.fin = true) → Violates .eFinalizeEnc s) ∧
    (∀ src, (s.ctx.valid = false ∨ s.ctx.dir = .enc ∨ s.ctx.fin = true ∨ (s.buf src).length ≠ 16) →
      Violates (.eSetTag src) s) ∧
    ((s.ctx.valid = false ∨ s.ctx.dir = .enc ∨ s.ctx.xset = false ∨ s.ctx.fin = true) → Violates .eFinalizeDec s)

/-- R133: when `ENGINE_FAULT` answers yes, `E.INIT` aborts with `EngineInitError` and the update and finalize
operations with `EngineTransformError`. -/
def Obligations.EngineFaultAborts : Prop :=
  ∀ (i : Instr) (s : State) (rest : List EngineAnswer), s.env.engine = .failed :: rest →
    (∀ d k z n, i = .eInit d k n → s.ctx.valid = false → kselSize k = some z → z ∈ s.params.keySizes → 1 ≤ n →
      n ≤ s.params.ivMax →
        ∃ t, exec i s = .next t ∧ Aborted .engineInitError (s.setEnv { s.env with engine := rest }) t) ∧
    (∀ dst src, i = .eUpdate dst src → updateContract dst src s →
      s.ctx.n + (s.buf src).length ≤ Config.msgMax →
        ∃ t, exec i s = .next t ∧ Aborted .engineTransformError (s.setEnv { s.env with engine := rest }) t) ∧
    (((i = .eFinalizeEnc ∧ finalizeEncContract s) ∨ (i = .eFinalizeDec ∧ finalizeDecContract s)) →
        ∃ t, exec i s = .next t ∧ Aborted .engineTransformError (s.setEnv { s.env with engine := rest }) t)

/-- R126, R127: an engine that gives another number of bytes than it took, or trailing bytes on finalize, aborts the
call with `TransformSizeMismatch`. (That such an engine is one more answer of the oracle is the model's choice, log
9.) -/
def Obligations.WrongSizeAborts : Prop :=
  ∀ (i : Instr) (m : Nat) (s : State) (rest : List EngineAnswer), s.env.engine = .misSized m :: rest →
    ((∃ dst src, i = .eUpdate dst src ∧ updateContract dst src s ∧
        s.ctx.n + (s.buf src).length ≤ Config.msgMax ∧ m ≠ (s.buf src).length) ∨
      (i = .eFinalizeEnc ∧ finalizeEncContract s ∧ m ≠ 0)) →
        ∃ t, exec i s = .next t ∧ Aborted .transformSizeMismatch (s.setEnv { s.env with engine := rest }) t

/-! ### Buffer operations -/

/-- R141: `B.EMPTY` empties its register in every state and changes nothing else. -/
def Obligations.BEmptyEmpties : Prop :=
  ∀ (dst : BufId) (s : State), ∃ t, exec (.bEmpty dst) s = .next t ∧ t.buf dst = [] ∧ OnlyBuf dst s t

/-- R142: `B.FROM_ARRAY` fills a register of capacity 16 from `ETAG`, first byte first; a register of another capacity is
a contract violation. (That with `B = 16` the registers `IN`, `CT` and `OUT` are of capacity 16 too, and are filled, is
the model's reading, DEDUCED from the rule's assert, log 22.) -/
def Obligations.BFromArrayCopiesEtag : Prop :=
  ∀ (dst : BufId) (s : State),
    (cap s.params dst = 16 →
      ∃ t, exec (.bFromArray dst) s = .next t ∧ (t.buf dst).length = 16 ∧ bytesBlock (t.buf dst) = s.etag ∧
        OnlyBuf dst s t) ∧
    (cap s.params dst ≠ 16 → Violates (.bFromArray dst) s)

/-- R143: `B.RESIZE` within the capacity gives the length asked for and keeps the first bytes; bytes it exposes are
unspecified, and nothing is said of them; beyond the capacity it is a contract violation. -/
def Obligations.BResizeSetsLength : Prop :=
  ∀ (dst : BufId) (n : Nat) (s : State),
    (n ≤ cap s.params dst →
      ∃ t, exec (.bResize dst n) s = .next t ∧ (t.buf dst).length = n ∧
        (t.buf dst).take (s.buf dst).length = (s.buf dst).take n ∧ OtherBufsKept dst s t ∧ OperandsKept s t ∧
        { t with bufs := s.bufs, draws := s.draws } = s) ∧
    (cap s.params dst < n → Violates (.bResize dst n) s)

/-- R144: `B.CONCAT` writes the first value followed by the second, if they fit; the two pairs the driver joins into `X`
always fit. (That the two pairs always fit is the spec's own inference from the capacities, R144 and R21.) -/
def Obligations.BConcatJoins : Prop :=
  encode (.bConcat .x .lb .in_) = 0x23640000 ∧
  (∀ (dst a b : BufId) (s : State),
    ((s.buf a).length + (s.buf b).length ≤ cap s.params dst →
      ∃ t, exec (.bConcat dst a b) s = .next t ∧ t.buf dst = s.buf a ++ s.buf b ∧ OnlyBuf dst s t) ∧
    (cap s.params dst < (s.buf a).length + (s.buf b).length → Violates (.bConcat dst a b) s)) ∧
  ∀ s : State, BufsFit s.params s.bufs →
    cap s.params .in_ + cap s.params .la = cap s.params .x ∧ cap s.params .lb + cap s.params .in_ = cap s.params .x ∧
    (∃ t, exec (.bConcat .x .in_ .la) s = .next t ∧ t.buf .x = s.buf .in_ ++ s.buf .la) ∧
    ∃ t, exec (.bConcat .x .lb .in_) s = .next t ∧ t.buf .x = s.buf .lb ++ s.buf .in_

/-- R145: `B.HEAD` writes the first `n` bytes of its source, under `n <= |val(src)|` and `n <= cap(dst)`. -/
def Obligations.BHeadTakesFirst : Prop :=
  encode (.bHead .ct .x 17) = 0x248C0011 ∧
  ∀ (dst src : BufId) (n : Nat) (s : State),
    (n ≤ (s.buf src).length → n ≤ cap s.params dst →
      ∃ t, exec (.bHead dst src n) s = .next t ∧ t.buf dst = (s.buf src).take n ∧ OnlyBuf dst s t) ∧
    ((s.buf src).length < n ∨ cap s.params dst < n → Violates (.bHead dst src n) s)

/-- R146: `B.TAIL` writes the last `n` bytes of its source, under `n <= |val(src)|` and `n <= cap(dst)`. (That `tail(n)`
is the last `n` bytes is the spec's own inference from the source's use, R146 and N6.) -/
def Obligations.BTailTakesLast : Prop :=
  encode (.bTail .tag .x 16) = 0x25CC0010 ∧
  ∀ (dst src : BufId) (n : Nat) (s : State),
    (n ≤ (s.buf src).length → n ≤ cap s.params dst →
      ∃ t, exec (.bTail dst src n) s = .next t ∧ (t.buf dst).length = n ∧
        (∃ head, s.buf src = head ++ t.buf dst) ∧ OnlyBuf dst s t) ∧
    ((s.buf src).length < n ∨ cap s.params dst < n → Violates (.bTail dst src n) s)

/-- R147, R148: `B.POP_FRONT` removes the first `n` bytes and `B.POP_BACK` the last `n`, under `n <= len`. (That `n > len`
is a contract violation is the spec's own reading of the source, as R147 and D26 say.) -/
def Obligations.PopsRemoveBytes : Prop :=
  encode (.bPopFront .x 16) = 0x26600010 ∧ encode (.bPopBack .x 16) = 0x27600010 ∧
  ∀ (dst : BufId) (n : Nat) (s : State),
    (n ≤ (s.buf dst).length →
      (∃ t, exec (.bPopFront dst n) s = .next t ∧ (t.buf dst).length = (s.buf dst).length - n ∧
        (∃ front, s.buf dst = front ++ t.buf dst) ∧ OnlyBuf dst s t) ∧
      (∃ t, exec (.bPopBack dst n) s = .next t ∧ (t.buf dst).length = (s.buf dst).length - n ∧
        (∃ back, s.buf dst = t.buf dst ++ back) ∧ OnlyBuf dst s t)) ∧
    ((s.buf dst).length < n → Violates (.bPopFront dst n) s ∧ Violates (.bPopBack dst n) s)

/-- R149: `B.COPY` assigns the value of its source, if it fits, and equals `B.HEAD` of the whole source; a copy of a
register to itself changes nothing. -/
def Obligations.BCopyAssigns : Prop :=
  encode (.bCopy .lb .la) = 0x28280000 ∧
  ∀ (dst src : BufId) (s : State),
    ((s.buf src).length ≤ cap s.params dst →
      ∃ t, exec (.bCopy dst src) s = .next t ∧ t.buf dst = s.buf src ∧ OnlyBuf dst s t ∧ (dst = src → t = s)) ∧
    (cap s.params dst < (s.buf src).length → Violates (.bCopy dst src) s) ∧
    exec (.bCopy dst src) s = exec (.bHead dst src (s.buf src).length) s

/-- R150: a split by `B.HEAD` and `B.TAIL` at any point, joined again by `B.CONCAT`, restores the value; a pop leaves
what the matching split of the register into itself leaves, the whole state alike. -/
def Obligations.SplitsPopsAndConcat : Prop :=
  (∀ (src hd tl d : BufId) (n : Nat) (s : State), hd ≠ src → hd ≠ tl → n ≤ (s.buf src).length →
    n ≤ cap s.params hd → (s.buf src).length - n ≤ cap s.params tl → (s.buf src).length ≤ cap s.params d →
      ∃ t u v, exec (.bHead hd src n) s = .next t ∧ exec (.bTail tl src ((s.buf src).length - n)) t = .next u ∧
        u.buf hd ++ u.buf tl = s.buf src ∧ exec (.bConcat d hd tl) u = .next v ∧ v.buf d = s.buf src) ∧
  ∀ (r : BufId) (n : Nat) (s : State), BufsFit s.params s.bufs → n ≤ (s.buf r).length →
    exec (.bPopFront r n) s = exec (.bTail r r ((s.buf r).length - n)) s ∧
    exec (.bPopBack r n) s = exec (.bHead r r ((s.buf r).length - n)) s

/-! ### Stream operations -/

/-- R160, R161, R61 to R63: an answer to `S.READ` that is no failure is stored whole and counted, with its status in
`RD_ST`; nothing else changes. With no answer listed, and for an answer `sound`, the source delivers the next bytes of
the stream, at most `n`, with `EOF` when they are fewer than `n`; that it then says `OK`, and not `EOF`, on a full read
is the model's default source, one of those R63 allows (logs 1, 25); the other is an answer that says `EOF`. An endless
stream fills every such read. A count of 0 or above the capacity is a contract violation and makes no transaction. -/
def Obligations.SReadStoresStream : Prop :=
  ∀ (dst : BufId) (n : Nat) (s : State),
    (∀ (bytes : List Byte) (st : RdStatus) (q : List ReadAnswer), 1 ≤ n → n ≤ cap s.params dst →
      (((s.env.reads = [] ∧ q = [] ∨ s.env.reads = .sound :: q) ∧ bytes = s.env.sIn.slice s.env.pos n ∧
          st = (if bytes.length < n then .eof else .ok)) ∨
        (∃ short, s.env.reads = .answer short st :: q ∧ bytes = s.env.sIn.slice s.env.pos (n - short) ∧
          st ≠ .err ∧ (bytes.length = n ∨ st = .eof))) →
      ∃ t, exec (.sRead dst n) s = .next t ∧ t.buf dst = bytes ∧ t.rdSt = st ∧
        t.cntIn = (s.cntIn + bytes.length) % 2 ^ s.params.cntBits ∧
        t.env = { s.env with
          pos := s.env.pos + bytes.length
          reads := q
          history := s.env.history ++ [.read n bytes st] } ∧
        OtherBufsKept dst s t ∧ OperandsKept s t ∧
        { t with bufs := s.bufs, rdSt := s.rdSt, cntIn := s.cntIn, env := s.env } = s) ∧
    ((n = 0 ∨ cap s.params dst < n) → Violates (.sRead dst n) s) ∧
    (s.env.sIn.endless = none → s.env.sIn.slice s.env.pos n = (s.env.sIn.bytes.drop s.env.pos).take n) ∧
    (s.env.sIn.endless ≠ none → (s.env.sIn.slice s.env.pos n).length = n ∧
      (s.env.pos + n ≤ s.env.sIn.bytes.length →
        s.env.sIn.slice s.env.pos n = (s.env.sIn.bytes.drop s.env.pos).take n))

/-- R160, R285, R297: an answer `ERR`, or a short one without `EOF`, aborts with `IoReadError`: `RD_ST` is written, the
bytes are neither stored nor counted, and the stream has moved past them. -/
def Obligations.SReadFailureAborts : Prop :=
  ∀ (dst : BufId) (n short : Nat) (st : RdStatus) (q : List ReadAnswer) (s : State),
    1 ≤ n → n ≤ cap s.params dst → s.env.reads = .answer short st :: q →
    (st = .err ∨ ((s.env.sIn.slice s.env.pos (n - short)).length < n ∧ st = .ok)) →
      ∃ t, exec (.sRead dst n) s = .next t ∧ t.rdSt = st ∧ t.cntIn = s.cntIn ∧
        t.env.pos = s.env.pos + (s.env.sIn.slice s.env.pos (n - short)).length ∧
        t.env.sink = s.env.sink ∧
        Aborted .ioReadError
          ((s.received n (s.env.sIn.slice s.env.pos (n - short)) st q).setRdSt st) t

/-- R163, R66, R67: `S.WRITE` of a non-empty register to a sink that takes all offers all of its bytes, in order, in
one transaction, and changes nothing else; of an empty register it does nothing at all. -/
def Obligations.SWriteSendsAll : Prop :=
  ∀ (src : BufId) (s : State),
    (s.buf src = [] → exec (.sWrite src) s = .next s) ∧
    (∀ q : List WriteAnswer, s.buf src ≠ [] →
      ((s.env.writes = [] ∧ q = []) ∨ s.env.writes = .answer 0 .ok :: q) →
      ∃ t, exec (.sWrite src) s = .next t ∧ t.wrSt = .ok ∧ OperandsKept s t ∧
        t.env = { s.env with
          sink := s.env.sink ++ s.buf src
          writes := q
          history := s.env.history ++ [.write (s.buf src) (s.buf src).length .ok] } ∧
        { t with wrSt := s.wrSt, env := s.env } = s)

/-- R163, R286, R297: an answer `ERR`, or fewer bytes accepted than offered, aborts with `IoWriteError`; the bytes
accepted stay in the sink. -/
def Obligations.SWriteFailureAborts : Prop :=
  ∀ (src : BufId) (short : Nat) (st : WrStatus) (q : List WriteAnswer) (s : State), s.buf src ≠ [] →
    s.env.writes = .answer short st :: q → (st = .err ∨ 0 < short) →
      ∃ t, exec (.sWrite src) s = .next t ∧ t.wrSt = st ∧
        t.env.sink = s.env.sink ++ (s.buf src).take ((s.buf src).length - short) ∧
        Aborted .ioWriteError
          ((s.sent (s.buf src) ((s.buf src).length - short) st q).setWrSt st) t

/-- R62, R66, U11: a port that never answers leaves the machine where it is: the step does not complete and the state
does not change. -/
def Obligations.SilentPortBlocks : Prop :=
  ∀ (s : State) (rest : List Action), s.env.host = [] →
    (∀ dst n q, Fits16 n → 1 ≤ n → n ≤ cap s.params dst → s.pending = .op (encode (.sRead dst n)) :: rest →
      s.env.reads = .hang :: q → step s = .next s) ∧
    (∀ src q, s.buf src ≠ [] → s.pending = .op (encode (.sWrite src)) :: rest → s.env.writes = .hang :: q →
      step s = .next s)

/-- R166, R108: `S.DIAG` sends one record of its kind on `DIAG`, whole, and touches nothing else, `OUTS` least of all;
`TAGVAL` without a tag is a contract violation. -/
def Obligations.SDiagSendsRecord : Prop :=
  ∀ s : State,
    (∃ t, exec (.sDiag .ivsize) s = .next t ∧
      t = s.setEnv { s.env with history := s.env.history ++ [.diag (0x00 :: beBytes 2 s.cmdlIvlen)] } ∧
      OperandsKept s t) ∧
    (∃ t, exec (.sDiag .counts) s = .next t ∧
      t = s.setEnv { s.env with
        history := s.env.history ++ [.diag (0x01 :: (beBytes 8 s.cntIn ++ beBytes 8 s.cntOut))] } ∧
      OperandsKept s t) ∧
    ((s.buf .tag).length = 16 →
      ∃ t, exec (.sDiag .tagval) s = .next t ∧
        t = s.setEnv { s.env with history := s.env.history ++ [.diag (0x02 :: s.buf .tag)] } ∧ OperandsKept s t) ∧
    ((s.buf .tag).length ≠ 16 → Violates (.sDiag .tagval) s)

/-! ### The driver -/

/-- R296: `raise K()`, from wherever it is raised, does exactly the abort sequence and keeps everything else; so does a
`raise` that a step rule itself writes, and no later part of that step is left. -/
def Obligations.AbortSequence : Prop :=
  (∀ (c : Code) (s : State), ∃ t, Sys2Proof.Machine.raise c s = .next t ∧ Aborted c s t ∧ OperandsKept s t) ∧
  ∀ (c : Code) (s : State) (rest : List Action), s.pending = .raise c :: rest → (∀ m h, s.env.host ≠ .reset m :: h) →
    ∃ t, step s = .next t ∧
      Aborted c ((s.setPending rest).setHost (hostAfterAction s.env.host)) t ∧ t.pending = []

/-- R171, R173 to R179: what the driver issues at each label of an encryption call. -/
def Obligations.EncryptionSteps : Prop :=
  ∀ s : State, s.fsm = .streaming → s.pending = [] → s.env.host = [] →
    ∀ p : List Action,
      (match s.label with
       | .st1 => p = [.op (encode (.eInit s.cmdlDir s.cmdlKsel s.cmdlIvlen)), .op (encode (.sDiag .ivsize)),
           .goto (if s.cmdlDir = .enc then .en1 else .de1)]
       | .en1 => p = [.op (encode (.sRead .in_ s.params.chunk)), .markLast, .goto .en2]
       | .en2 => p = [.op (encode (.eUpdate .out .in_)), .countOut, .goto .en3]
       | .en3 => p = [.op (encode (.sWrite .out)), .goto .en4]
       | .en4 => p = [.goto (if s.last = false then .en1 else .en5)]
       | .en5 => p = [.op (encode .eFinalizeEnc), .op (encode (.bFromArray .tag)), .goto .en6]
       | .en6 => p = [.op (encode (.sWrite .tag)), .goto .en7]
       | .en7 => p = [.op (encode (.sDiag .counts)), .op (encode (.sDiag .tagval)), .op (encode .eRelease),
           .complete 0x00]
       | _ => False) →
      step s = .next (s.setPending p)

/-- R191 to R199, R206 to R211: what the driver issues at each label of a decryption call. -/
def Obligations.DecryptionSteps : Prop :=
  ∀ s : State, s.fsm = .streaming → s.pending = [] → s.env.host = [] →
    ∀ p : List Action,
      (match s.label with
       | .de1 => p = [.op (encode (.sRead .in_ s.params.chunk)), .goto .de2]
       | .de2 => p = [.goto (if (s.buf .in_).length = s.params.chunk then .de3 else .de9)]
       | .de3 => p = [.op (encode (.eUpdate .out .lb)), .countOut, .op (encode (.sWrite .out)),
           .op (encode (.bEmpty .lb)), .goto .de4]
       | .de4 => p = [.op (encode (.sRead .la 16)), .goto .de5]
       | .de5 => p = [.goto (if (s.buf .la).length = 16 then .de6 else .de8)]
       | .de6 => p = [.op (encode (.eUpdate .out .in_)), .countOut, .op (encode (.sWrite .out)), .goto .de7]
       | .de7 => p = [.op (encode (.bCopy .lb .la)), .goto .de1]
       | .de8 => p = [.op (encode (.bConcat .x .in_ .la)), .goto .df1]
       | .de9 => p = [.op (encode (.bConcat .x .lb .in_)), .goto .df1]
       | .df1 => p = [if (s.buf .x).length < 16 then .raise .inputTooShort else .goto .df2]
       | .df2 => p = [.op (encode (.bHead .ct .x ((s.buf .x).length - 16))), .op (encode (.bTail .tag .x 16)),
           .goto .df3]
       | .df3 => p = [.op (encode (.eUpdate .out .ct)), .countOut, .op (encode (.sWrite .out)), .goto .df4]
       | .df4 => p = [.op (encode (.eSetTag .tag)), .goto .df5]
       | .df5 => p = [.op (encode .eFinalizeDec), .goto .df6]
       | .df6 => p = [.op (encode (.sDiag .counts)), .op (encode (.sDiag .tagval)), .op (encode .eRelease),
           .complete (if s.auth = true then 0x30 else 0x21)]
       | _ => False) →
      step s = .next (s.setPending p)

/-- R14, R173, R174, R179, R211: what the driver's own actions do, and that they change nothing else. -/
def Obligations.DriverActions : Prop :=
  ∀ (s : State) (rest : List Action), s.env.host = [] →
    (s.pending = .markLast :: rest →
      ∃ t, step s = .next t ∧ (t.last = true ↔ (s.buf .in_).length < s.params.chunk) ∧
        { t with last := s.last } = s.setPending rest) ∧
    (s.pending = .countOut :: rest →
      ∃ t, step s = .next t ∧ t.cntOut = (s.cntOut + (s.buf .out).length) % 2 ^ s.params.cntBits ∧
        { t with cntOut := s.cntOut } = s.setPending rest) ∧
    (∀ l, s.pending = .goto l :: rest → step s = .next { s with label := l, pending := rest }) ∧
    (∀ r, s.pending = .complete r :: rest →
      step s = .next { s with bufs := Bufs.empty, result := r, fsm := .done, label := .st0, pending := [] })

/-- R192: step `DE2` goes to `DE3` on a full chunk and to `DE9` on a partial one, and does nothing else. -/
def Obligations.FullChunkTest : Prop :=
  ∀ s : State, s.fsm = .streaming → s.label = .de2 → s.pending = [] → s.env.host = [] →
    ((s.buf .in_).length = s.params.chunk → Sys2Proof.core.run 2 s = .next (s.goto .de3)) ∧
    ((s.buf .in_).length ≠ s.params.chunk → Sys2Proof.core.run 2 s = .next (s.goto .de9))

/-! ### The cipher -/

/-- R125, R135 (P1, P2): `Update` keeps the length, is the identity on nothing, and feeding two pieces is feeding their
concatenation. -/
def Obligations.UpdateInPieces : Prop :=
  ∀ (c : Ctx) (a b : List Byte),
    update c [] = ([], c) ∧ (update c a).1.length = a.length ∧ (update c a).2.n = c.n + a.length ∧
    (update c (a ++ b)).1 = (update c a).1 ++ (update (update c a).2 b).1 ∧
    (update c (a ++ b)).2 = (update (update c a).2 b).2

/-- R125, R135 (P4): a decrypting context undoes an encrypting one that differs from it in direction only, and leaves
the same `Y`, `N`, `PART`, so that both compute one tag. -/
def Obligations.DecryptUndoesEncrypt : Prop :=
  ∀ (c : Ctx) (p : List Byte), c.dir = .enc →
    update { c with dir := .dec } (update c p).1 = (p, { (update c p).2 with dir := .dec }) ∧
    finalTag { (update c p).2 with dir := .dec } = finalTag (update c p).2

/-- R267: `E.INIT`'s context, fed the message and finalized, gives the one-shot GCM ciphertext (or plaintext) and
tag. -/
def Obligations.StreamingIsOneShotGcm : Prop :=
  ∀ (c : Ctx) (key iv p : List Byte), (key.length = 16 ∨ key.length = 24 ∨ key.length = 32) →
    ((update (initCtx c .enc key iv) p).1, finalTag (update (initCtx c .enc key iv) p).2) = gcmEncrypt key iv p ∧
    ((update (initCtx c .dec key iv) p).1, finalTag (update (initCtx c .dec key iv) p).2) = gcmDecrypt key iv p

/-- R266, R268: within `MSG_MAX` no two counter blocks of a message coincide, none is the pre-counter block, and the
first 12 bytes never change. -/
def Obligations.CounterBlocksDistinct : Prop :=
  ∀ (j0 : Block) (i j : Nat), i ≤ 2 ^ 32 - 2 → j ≤ 2 ^ 32 - 2 →
    (ctrBlock j0 i = ctrBlock j0 j → i = j) ∧ ctrBlock j0 i ≠ j0 ∧
    (ctrBlock j0 i).toNat / 2 ^ 32 = j0.toNat / 2 ^ 32

/-! ### Whole calls -/

/-- R180: from every rest of the driver, with supported lengths, any well-behaved ports (a full read
may say `EOF`, R63), a sound engine and at most `MSG_MAX`
bytes of input, an encryption call ends with `Success`, has counted the plaintext twice, and the
sink has received the one-shot GCM ciphertext of the whole input stream followed by its tag, whatever `B` is. -/
def Obligations.EncryptCallComputesGcm : Prop :=
  ∀ (s : State) (k : KSel) (z : KeySize) (n : Nat), DriverInv s → s.fsm ≠ .streaming → WellBehaved s →
    s.env.host = [.writeCmd (encode (.encrypt k n))] → s.env.pos = 0 → kselSize k = some z →
    z ∈ s.params.keySizes → 1 ≤ n → n ≤ s.params.ivMax → s.env.sIn.bytes.length ≤ Config.msgMax →
      ∃ m t, Sys2Proof.core.run m s = .next t ∧ t.fsm = .done ∧ t.result = 0x00 ∧
        t.cntIn = s.env.sIn.bytes.length % 2 ^ s.params.cntBits ∧
        t.cntOut = s.env.sIn.bytes.length % 2 ^ s.params.cntBits ∧
        t.env.sink = s.env.sink ++
          (gcmEncrypt (Memory.slice s.key 0 (keyLen z)) (Memory.slice s.ivmem 0 n) s.env.sIn.bytes).1 ++
          blockBytes (gcmEncrypt (Memory.slice s.key 0 (keyLen z)) (Memory.slice s.ivmem 0 n) s.env.sIn.bytes).2 ∧
        Clean t ∧ OperandsKept s t

/-- R212: from every rest of the driver, with supported lengths, any well-behaved ports (a full read
may say `EOF`, R63), a sound engine and at most `MSG_MAX`
bytes before the last 16, a decryption call of at least 16 bytes writes the one-shot GCM plaintext of all but
the last 16, whether or not the tag matches, and ends with 0x30 exactly when those 16 are the tag. -/
def Obligations.DecryptCallComputesGcm : Prop :=
  ∀ (s : State) (k : KSel) (z : KeySize) (n : Nat), DriverInv s → s.fsm ≠ .streaming → WellBehaved s →
    s.env.host = [.writeCmd (encode (.decrypt k n))] → s.env.pos = 0 → kselSize k = some z →
    z ∈ s.params.keySizes → 1 ≤ n → n ≤ s.params.ivMax → 16 ≤ s.env.sIn.bytes.length →
    s.env.sIn.bytes.length - 16 ≤ Config.msgMax →
      ∃ m t, Sys2Proof.core.run m s = .next t ∧ t.fsm = .done ∧
        t.cntIn = s.env.sIn.bytes.length % 2 ^ s.params.cntBits ∧
        t.cntOut = (s.env.sIn.bytes.length - 16) % 2 ^ s.params.cntBits ∧
        t.env.sink = s.env.sink ++ (gcmDecrypt (Memory.slice s.key 0 (keyLen z)) (Memory.slice s.ivmem 0 n)
          (s.env.sIn.bytes.take (s.env.sIn.bytes.length - 16))).1 ∧
        t.result = (if blockBytes (gcmDecrypt (Memory.slice s.key 0 (keyLen z)) (Memory.slice s.ivmem 0 n)
          (s.env.sIn.bytes.take (s.env.sIn.bytes.length - 16))).2 = s.env.sIn.bytes.drop (s.env.sIn.bytes.length - 16)
          then 0x30 else 0x21) ∧ Clean t ∧ OperandsKept s t

/-- R206, R287: a decryption input shorter than a tag ends with `InputTooShort`, from every rest of the driver with
supported lengths, any well-behaved ports and a sound engine: the input is counted, no byte reaches the sink, none is
counted as produced. -/
def Obligations.ShortInputIsTooShort : Prop :=
  ∀ (s : State) (k : KSel) (z : KeySize) (n : Nat), DriverInv s → s.fsm ≠ .streaming → WellBehaved s →
    s.env.host = [.writeCmd (encode (.decrypt k n))] → s.env.pos = 0 → kselSize k = some z →
    z ∈ s.params.keySizes → 1 ≤ n → n ≤ s.params.ivMax → s.env.sIn.bytes.length < 16 →
      ∃ m t, Sys2Proof.core.run m s = .next t ∧ t.fsm = .done ∧ t.result = 0x27 ∧
        t.cntIn = s.env.sIn.bytes.length % 2 ^ s.params.cntBits ∧ t.cntOut = 0 ∧ t.env.sink = s.env.sink ∧
        Clean t ∧ OperandsKept s t
end

