-- ==== Sys2Proof/Laws/State.lean ====
section
/-! SUPPORT. One lemma per field per update of the state, each true by unfolding, so that no proof unfolds a record
update. -/

namespace Sys2Proof.Machine

@[simp] theorem State.setBuf_bufs (s : State) (r : BufId) (v : List Byte) : (s.setBuf r v).bufs = s.bufs.set r v := rfl
@[simp] theorem State.setBuf_fsm (s : State) (r : BufId) (v : List Byte) : (s.setBuf r v).fsm = s.fsm := rfl
@[simp] theorem State.setBuf_label (s : State) (r : BufId) (v : List Byte) : (s.setBuf r v).label = s.label := rfl
@[simp] theorem State.setBuf_last (s : State) (r : BufId) (v : List Byte) : (s.setBuf r v).last = s.last := rfl
@[simp] theorem State.setBuf_rdSt (s : State) (r : BufId) (v : List Byte) : (s.setBuf r v).rdSt = s.rdSt := rfl
@[simp] theorem State.setBuf_wrSt (s : State) (r : BufId) (v : List Byte) : (s.setBuf r v).wrSt = s.wrSt := rfl
@[simp] theorem State.setBuf_auth (s : State) (r : BufId) (v : List Byte) : (s.setBuf r v).auth = s.auth := rfl
@[simp] theorem State.setBuf_result (s : State) (r : BufId) (v : List Byte) : (s.setBuf r v).result = s.result := rfl
@[simp] theorem State.setBuf_cntIn (s : State) (r : BufId) (v : List Byte) : (s.setBuf r v).cntIn = s.cntIn := rfl
@[simp] theorem State.setBuf_cntOut (s : State) (r : BufId) (v : List Byte) : (s.setBuf r v).cntOut = s.cntOut := rfl
@[simp] theorem State.setBuf_key (s : State) (r : BufId) (v : List Byte) : (s.setBuf r v).key = s.key := rfl
@[simp] theorem State.setBuf_ivmem (s : State) (r : BufId) (v : List Byte) : (s.setBuf r v).ivmem = s.ivmem := rfl
@[simp] theorem State.setBuf_cmdl (s : State) (r : BufId) (v : List Byte) : (s.setBuf r v).cmdl = s.cmdl := rfl
@[simp] theorem State.setBuf_ctx (s : State) (r : BufId) (v : List Byte) : (s.setBuf r v).ctx = s.ctx := rfl
@[simp] theorem State.setBuf_etag (s : State) (r : BufId) (v : List Byte) : (s.setBuf r v).etag = s.etag := rfl
@[simp] theorem State.setBuf_pending (s : State) (r : BufId) (v : List Byte) : (s.setBuf r v).pending = s.pending := rfl
@[simp] theorem State.setBuf_draws (s : State) (r : BufId) (v : List Byte) : (s.setBuf r v).draws = s.draws := rfl
@[simp] theorem State.setBuf_params (s : State) (r : BufId) (v : List Byte) : (s.setBuf r v).params = s.params := rfl
@[simp] theorem State.setBuf_env (s : State) (r : BufId) (v : List Byte) : (s.setBuf r v).env = s.env := rfl

@[simp] theorem State.clearBufs_bufs (s : State) : (s.clearBufs).bufs = Bufs.empty := rfl
@[simp] theorem State.clearBufs_fsm (s : State) : (s.clearBufs).fsm = s.fsm := rfl
@[simp] theorem State.clearBufs_label (s : State) : (s.clearBufs).label = s.label := rfl
@[simp] theorem State.clearBufs_last (s : State) : (s.clearBufs).last = s.last := rfl
@[simp] theorem State.clearBufs_rdSt (s : State) : (s.clearBufs).rdSt = s.rdSt := rfl
@[simp] theorem State.clearBufs_wrSt (s : State) : (s.clearBufs).wrSt = s.wrSt := rfl
@[simp] theorem State.clearBufs_auth (s : State) : (s.clearBufs).auth = s.auth := rfl
@[simp] theorem State.clearBufs_result (s : State) : (s.clearBufs).result = s.result := rfl
@[simp] theorem State.clearBufs_cntIn (s : State) : (s.clearBufs).cntIn = s.cntIn := rfl
@[simp] theorem State.clearBufs_cntOut (s : State) : (s.clearBufs).cntOut = s.cntOut := rfl
@[simp] theorem State.clearBufs_key (s : State) : (s.clearBufs).key = s.key := rfl
@[simp] theorem State.clearBufs_ivmem (s : State) : (s.clearBufs).ivmem = s.ivmem := rfl
@[simp] theorem State.clearBufs_cmdl (s : State) : (s.clearBufs).cmdl = s.cmdl := rfl
@[simp] theorem State.clearBufs_ctx (s : State) : (s.clearBufs).ctx = s.ctx := rfl
@[simp] theorem State.clearBufs_etag (s : State) : (s.clearBufs).etag = s.etag := rfl
@[simp] theorem State.clearBufs_pending (s : State) : (s.clearBufs).pending = s.pending := rfl
@[simp] theorem State.clearBufs_draws (s : State) : (s.clearBufs).draws = s.draws := rfl
@[simp] theorem State.clearBufs_params (s : State) : (s.clearBufs).params = s.params := rfl
@[simp] theorem State.clearBufs_env (s : State) : (s.clearBufs).env = s.env := rfl

@[simp] theorem State.setCtx_bufs (s : State) (c : Ctx) : (s.setCtx c).bufs = s.bufs := rfl
@[simp] theorem State.setCtx_fsm (s : State) (c : Ctx) : (s.setCtx c).fsm = s.fsm := rfl
@[simp] theorem State.setCtx_label (s : State) (c : Ctx) : (s.setCtx c).label = s.label := rfl
@[simp] theorem State.setCtx_last (s : State) (c : Ctx) : (s.setCtx c).last = s.last := rfl
@[simp] theorem State.setCtx_rdSt (s : State) (c : Ctx) : (s.setCtx c).rdSt = s.rdSt := rfl
@[simp] theorem State.setCtx_wrSt (s : State) (c : Ctx) : (s.setCtx c).wrSt = s.wrSt := rfl
@[simp] theorem State.setCtx_auth (s : State) (c : Ctx) : (s.setCtx c).auth = s.auth := rfl
@[simp] theorem State.setCtx_result (s : State) (c : Ctx) : (s.setCtx c).result = s.result := rfl
@[simp] theorem State.setCtx_cntIn (s : State) (c : Ctx) : (s.setCtx c).cntIn = s.cntIn := rfl
@[simp] theorem State.setCtx_cntOut (s : State) (c : Ctx) : (s.setCtx c).cntOut = s.cntOut := rfl
@[simp] theorem State.setCtx_key (s : State) (c : Ctx) : (s.setCtx c).key = s.key := rfl
@[simp] theorem State.setCtx_ivmem (s : State) (c : Ctx) : (s.setCtx c).ivmem = s.ivmem := rfl
@[simp] theorem State.setCtx_cmdl (s : State) (c : Ctx) : (s.setCtx c).cmdl = s.cmdl := rfl
@[simp] theorem State.setCtx_ctx (s : State) (c : Ctx) : (s.setCtx c).ctx = c := rfl
@[simp] theorem State.setCtx_etag (s : State) (c : Ctx) : (s.setCtx c).etag = s.etag := rfl
@[simp] theorem State.setCtx_pending (s : State) (c : Ctx) : (s.setCtx c).pending = s.pending := rfl
@[simp] theorem State.setCtx_draws (s : State) (c : Ctx) : (s.setCtx c).draws = s.draws := rfl
@[simp] theorem State.setCtx_params (s : State) (c : Ctx) : (s.setCtx c).params = s.params := rfl
@[simp] theorem State.setCtx_env (s : State) (c : Ctx) : (s.setCtx c).env = s.env := rfl
@[simp] theorem State.setCtx_buf (s : State) (c : Ctx) (q' : BufId) : (s.setCtx c).buf q' = s.buf q' := rfl

@[simp] theorem State.setEtag_bufs (s : State) (t : Block) : (s.setEtag t).bufs = s.bufs := rfl
@[simp] theorem State.setEtag_fsm (s : State) (t : Block) : (s.setEtag t).fsm = s.fsm := rfl
@[simp] theorem State.setEtag_label (s : State) (t : Block) : (s.setEtag t).label = s.label := rfl
@[simp] theorem State.setEtag_last (s : State) (t : Block) : (s.setEtag t).last = s.last := rfl
@[simp] theorem State.setEtag_rdSt (s : State) (t : Block) : (s.setEtag t).rdSt = s.rdSt := rfl
@[simp] theorem State.setEtag_wrSt (s : State) (t : Block) : (s.setEtag t).wrSt = s.wrSt := rfl
@[simp] theorem State.setEtag_auth (s : State) (t : Block) : (s.setEtag t).auth = s.auth := rfl
@[simp] theorem State.setEtag_result (s : State) (t : Block) : (s.setEtag t).result = s.result := rfl
@[simp] theorem State.setEtag_cntIn (s : State) (t : Block) : (s.setEtag t).cntIn = s.cntIn := rfl
@[simp] theorem State.setEtag_cntOut (s : State) (t : Block) : (s.setEtag t).cntOut = s.cntOut := rfl
@[simp] theorem State.setEtag_key (s : State) (t : Block) : (s.setEtag t).key = s.key := rfl
@[simp] theorem State.setEtag_ivmem (s : State) (t : Block) : (s.setEtag t).ivmem = s.ivmem := rfl
@[simp] theorem State.setEtag_cmdl (s : State) (t : Block) : (s.setEtag t).cmdl = s.cmdl := rfl
@[simp] theorem State.setEtag_ctx (s : State) (t : Block) : (s.setEtag t).ctx = s.ctx := rfl
@[simp] theorem State.setEtag_etag (s : State) (t : Block) : (s.setEtag t).etag = t := rfl
@[simp] theorem State.setEtag_pending (s : State) (t : Block) : (s.setEtag t).pending = s.pending := rfl
@[simp] theorem State.setEtag_draws (s : State) (t : Block) : (s.setEtag t).draws = s.draws := rfl
@[simp] theorem State.setEtag_params (s : State) (t : Block) : (s.setEtag t).params = s.params := rfl
@[simp] theorem State.setEtag_env (s : State) (t : Block) : (s.setEtag t).env = s.env := rfl
@[simp] theorem State.setEtag_buf (s : State) (t : Block) (q' : BufId) : (s.setEtag t).buf q' = s.buf q' := rfl

@[simp] theorem State.scrub_bufs (s : State) : (s.scrub).bufs = s.bufs := rfl
@[simp] theorem State.scrub_fsm (s : State) : (s.scrub).fsm = s.fsm := rfl
@[simp] theorem State.scrub_label (s : State) : (s.scrub).label = s.label := rfl
@[simp] theorem State.scrub_last (s : State) : (s.scrub).last = s.last := rfl
@[simp] theorem State.scrub_rdSt (s : State) : (s.scrub).rdSt = s.rdSt := rfl
@[simp] theorem State.scrub_wrSt (s : State) : (s.scrub).wrSt = s.wrSt := rfl
@[simp] theorem State.scrub_auth (s : State) : (s.scrub).auth = s.auth := rfl
@[simp] theorem State.scrub_result (s : State) : (s.scrub).result = s.result := rfl
@[simp] theorem State.scrub_cntIn (s : State) : (s.scrub).cntIn = s.cntIn := rfl
@[simp] theorem State.scrub_cntOut (s : State) : (s.scrub).cntOut = s.cntOut := rfl
@[simp] theorem State.scrub_key (s : State) : (s.scrub).key = s.key := rfl
@[simp] theorem State.scrub_ivmem (s : State) : (s.scrub).ivmem = s.ivmem := rfl
@[simp] theorem State.scrub_cmdl (s : State) : (s.scrub).cmdl = s.cmdl := rfl
@[simp] theorem State.scrub_ctx (s : State) : (s.scrub).ctx = Ctx.zero := rfl
@[simp] theorem State.scrub_etag (s : State) : (s.scrub).etag = 0 := rfl
@[simp] theorem State.scrub_pending (s : State) : (s.scrub).pending = s.pending := rfl
@[simp] theorem State.scrub_draws (s : State) : (s.scrub).draws = s.draws := rfl
@[simp] theorem State.scrub_params (s : State) : (s.scrub).params = s.params := rfl
@[simp] theorem State.scrub_env (s : State) : (s.scrub).env = s.env := rfl
@[simp] theorem State.scrub_buf (s : State) (q' : BufId) : (s.scrub).buf q' = s.buf q' := rfl

@[simp] theorem State.setPending_bufs (s : State) (p : List Action) : (s.setPending p).bufs = s.bufs := rfl
@[simp] theorem State.setPending_fsm (s : State) (p : List Action) : (s.setPending p).fsm = s.fsm := rfl
@[simp] theorem State.setPending_label (s : State) (p : List Action) : (s.setPending p).label = s.label := rfl
@[simp] theorem State.setPending_last (s : State) (p : List Action) : (s.setPending p).last = s.last := rfl
@[simp] theorem State.setPending_rdSt (s : State) (p : List Action) : (s.setPending p).rdSt = s.rdSt := rfl
@[simp] theorem State.setPending_wrSt (s : State) (p : List Action) : (s.setPending p).wrSt = s.wrSt := rfl
@[simp] theorem State.setPending_auth (s : State) (p : List Action) : (s.setPending p).auth = s.auth := rfl
@[simp] theorem State.setPending_result (s : State) (p : List Action) : (s.setPending p).result = s.result := rfl
@[simp] theorem State.setPending_cntIn (s : State) (p : List Action) : (s.setPending p).cntIn = s.cntIn := rfl
@[simp] theorem State.setPending_cntOut (s : State) (p : List Action) : (s.setPending p).cntOut = s.cntOut := rfl
@[simp] theorem State.setPending_key (s : State) (p : List Action) : (s.setPending p).key = s.key := rfl
@[simp] theorem State.setPending_ivmem (s : State) (p : List Action) : (s.setPending p).ivmem = s.ivmem := rfl
@[simp] theorem State.setPending_cmdl (s : State) (p : List Action) : (s.setPending p).cmdl = s.cmdl := rfl
@[simp] theorem State.setPending_ctx (s : State) (p : List Action) : (s.setPending p).ctx = s.ctx := rfl
@[simp] theorem State.setPending_etag (s : State) (p : List Action) : (s.setPending p).etag = s.etag := rfl
@[simp] theorem State.setPending_pending (s : State) (p : List Action) : (s.setPending p).pending = p := rfl
@[simp] theorem State.setPending_draws (s : State) (p : List Action) : (s.setPending p).draws = s.draws := rfl
@[simp] theorem State.setPending_params (s : State) (p : List Action) : (s.setPending p).params = s.params := rfl
@[simp] theorem State.setPending_env (s : State) (p : List Action) : (s.setPending p).env = s.env := rfl
@[simp] theorem State.setPending_buf (s : State) (p : List Action) (q' : BufId) : (s.setPending p).buf q' = s.buf q' := rfl

@[simp] theorem State.setEnv_bufs (s : State) (e : Env) : (s.setEnv e).bufs = s.bufs := rfl
@[simp] theorem State.setEnv_fsm (s : State) (e : Env) : (s.setEnv e).fsm = s.fsm := rfl
@[simp] theorem State.setEnv_label (s : State) (e : Env) : (s.setEnv e).label = s.label := rfl
@[simp] theorem State.setEnv_last (s : State) (e : Env) : (s.setEnv e).last = s.last := rfl
@[simp] theorem State.setEnv_rdSt (s : State) (e : Env) : (s.setEnv e).rdSt = s.rdSt := rfl
@[simp] theorem State.setEnv_wrSt (s : State) (e : Env) : (s.setEnv e).wrSt = s.wrSt := rfl
@[simp] theorem State.setEnv_auth (s : State) (e : Env) : (s.setEnv e).auth = s.auth := rfl
@[simp] theorem State.setEnv_result (s : State) (e : Env) : (s.setEnv e).result = s.result := rfl
@[simp] theorem State.setEnv_cntIn (s : State) (e : Env) : (s.setEnv e).cntIn = s.cntIn := rfl
@[simp] theorem State.setEnv_cntOut (s : State) (e : Env) : (s.setEnv e).cntOut = s.cntOut := rfl
@[simp] theorem State.setEnv_key (s : State) (e : Env) : (s.setEnv e).key = s.key := rfl
@[simp] theorem State.setEnv_ivmem (s : State) (e : Env) : (s.setEnv e).ivmem = s.ivmem := rfl
@[simp] theorem State.setEnv_cmdl (s : State) (e : Env) : (s.setEnv e).cmdl = s.cmdl := rfl
@[simp] theorem State.setEnv_ctx (s : State) (e : Env) : (s.setEnv e).ctx = s.ctx := rfl
@[simp] theorem State.setEnv_etag (s : State) (e : Env) : (s.setEnv e).etag = s.etag := rfl
@[simp] theorem State.setEnv_pending (s : State) (e : Env) : (s.setEnv e).pending = s.pending := rfl
@[simp] theorem State.setEnv_draws (s : State) (e : Env) : (s.setEnv e).draws = s.draws := rfl
@[simp] theorem State.setEnv_params (s : State) (e : Env) : (s.setEnv e).params = s.params := rfl
@[simp] theorem State.setEnv_env (s : State) (e : Env) : (s.setEnv e).env = e := rfl
@[simp] theorem State.setEnv_buf (s : State) (e : Env) (q' : BufId) : (s.setEnv e).buf q' = s.buf q' := rfl

@[simp] theorem State.goto_bufs (s : State) (l : Label) : (s.goto l).bufs = s.bufs := rfl
@[simp] theorem State.goto_fsm (s : State) (l : Label) : (s.goto l).fsm = s.fsm := rfl
@[simp] theorem State.goto_label (s : State) (l : Label) : (s.goto l).label = l := rfl
@[simp] theorem State.goto_last (s : State) (l : Label) : (s.goto l).last = s.last := rfl
@[simp] theorem State.goto_rdSt (s : State) (l : Label) : (s.goto l).rdSt = s.rdSt := rfl
@[simp] theorem State.goto_wrSt (s : State) (l : Label) : (s.goto l).wrSt = s.wrSt := rfl
@[simp] theorem State.goto_auth (s : State) (l : Label) : (s.goto l).auth = s.auth := rfl
@[simp] theorem State.goto_result (s : State) (l : Label) : (s.goto l).result = s.result := rfl
@[simp] theorem State.goto_cntIn (s : State) (l : Label) : (s.goto l).cntIn = s.cntIn := rfl
@[simp] theorem State.goto_cntOut (s : State) (l : Label) : (s.goto l).cntOut = s.cntOut := rfl
@[simp] theorem State.goto_key (s : State) (l : Label) : (s.goto l).key = s.key := rfl
@[simp] theorem State.goto_ivmem (s : State) (l : Label) : (s.goto l).ivmem = s.ivmem := rfl
@[simp] theorem State.goto_cmdl (s : State) (l : Label) : (s.goto l).cmdl = s.cmdl := rfl
@[simp] theorem State.goto_ctx (s : State) (l : Label) : (s.goto l).ctx = s.ctx := rfl
@[simp] theorem State.goto_etag (s : State) (l : Label) : (s.goto l).etag = s.etag := rfl
@[simp] theorem State.goto_pending (s : State) (l : Label) : (s.goto l).pending = s.pending := rfl
@[simp] theorem State.goto_draws (s : State) (l : Label) : (s.goto l).draws = s.draws := rfl
@[simp] theorem State.goto_params (s : State) (l : Label) : (s.goto l).params = s.params := rfl
@[simp] theorem State.goto_env (s : State) (l : Label) : (s.goto l).env = s.env := rfl
@[simp] theorem State.goto_buf (s : State) (l : Label) (q' : BufId) : (s.goto l).buf q' = s.buf q' := rfl

@[simp] theorem State.setRdSt_bufs (s : State) (x : RdStatus) : (s.setRdSt x).bufs = s.bufs := rfl
@[simp] theorem State.setRdSt_fsm (s : State) (x : RdStatus) : (s.setRdSt x).fsm = s.fsm := rfl
@[simp] theorem State.setRdSt_label (s : State) (x : RdStatus) : (s.setRdSt x).label = s.label := rfl
@[simp] theorem State.setRdSt_last (s : State) (x : RdStatus) : (s.setRdSt x).last = s.last := rfl
@[simp] theorem State.setRdSt_rdSt (s : State) (x : RdStatus) : (s.setRdSt x).rdSt = x := rfl
@[simp] theorem State.setRdSt_wrSt (s : State) (x : RdStatus) : (s.setRdSt x).wrSt = s.wrSt := rfl
@[simp] theorem State.setRdSt_auth (s : State) (x : RdStatus) : (s.setRdSt x).auth = s.auth := rfl
@[simp] theorem State.setRdSt_result (s : State) (x : RdStatus) : (s.setRdSt x).result = s.result := rfl
@[simp] theorem State.setRdSt_cntIn (s : State) (x : RdStatus) : (s.setRdSt x).cntIn = s.cntIn := rfl
@[simp] theorem State.setRdSt_cntOut (s : State) (x : RdStatus) : (s.setRdSt x).cntOut = s.cntOut := rfl
@[simp] theorem State.setRdSt_key (s : State) (x : RdStatus) : (s.setRdSt x).key = s.key := rfl
@[simp] theorem State.setRdSt_ivmem (s : State) (x : RdStatus) : (s.setRdSt x).ivmem = s.ivmem := rfl
@[simp] theorem State.setRdSt_cmdl (s : State) (x : RdStatus) : (s.setRdSt x).cmdl = s.cmdl := rfl
@[simp] theorem State.setRdSt_ctx (s : State) (x : RdStatus) : (s.setRdSt x).ctx = s.ctx := rfl
@[simp] theorem State.setRdSt_etag (s : State) (x : RdStatus) : (s.setRdSt x).etag = s.etag := rfl
@[simp] theorem State.setRdSt_pending (s : State) (x : RdStatus) : (s.setRdSt x).pending = s.pending := rfl
@[simp] theorem State.setRdSt_draws (s : State) (x : RdStatus) : (s.setRdSt x).draws = s.draws := rfl
@[simp] theorem State.setRdSt_params (s : State) (x : RdStatus) : (s.setRdSt x).params = s.params := rfl
@[simp] theorem State.setRdSt_env (s : State) (x : RdStatus) : (s.setRdSt x).env = s.env := rfl
@[simp] theorem State.setRdSt_buf (s : State) (x : RdStatus) (q' : BufId) : (s.setRdSt x).buf q' = s.buf q' := rfl

@[simp] theorem State.setWrSt_bufs (s : State) (x : WrStatus) : (s.setWrSt x).bufs = s.bufs := rfl
@[simp] theorem State.setWrSt_fsm (s : State) (x : WrStatus) : (s.setWrSt x).fsm = s.fsm := rfl
@[simp] theorem State.setWrSt_label (s : State) (x : WrStatus) : (s.setWrSt x).label = s.label := rfl
@[simp] theorem State.setWrSt_last (s : State) (x : WrStatus) : (s.setWrSt x).last = s.last := rfl
@[simp] theorem State.setWrSt_rdSt (s : State) (x : WrStatus) : (s.setWrSt x).rdSt = s.rdSt := rfl
@[simp] theorem State.setWrSt_wrSt (s : State) (x : WrStatus) : (s.setWrSt x).wrSt = x := rfl
@[simp] theorem State.setWrSt_auth (s : State) (x : WrStatus) : (s.setWrSt x).auth = s.auth := rfl
@[simp] theorem State.setWrSt_result (s : State) (x : WrStatus) : (s.setWrSt x).result = s.result := rfl
@[simp] theorem State.setWrSt_cntIn (s : State) (x : WrStatus) : (s.setWrSt x).cntIn = s.cntIn := rfl
@[simp] theorem State.setWrSt_cntOut (s : State) (x : WrStatus) : (s.setWrSt x).cntOut = s.cntOut := rfl
@[simp] theorem State.setWrSt_key (s : State) (x : WrStatus) : (s.setWrSt x).key = s.key := rfl
@[simp] theorem State.setWrSt_ivmem (s : State) (x : WrStatus) : (s.setWrSt x).ivmem = s.ivmem := rfl
@[simp] theorem State.setWrSt_cmdl (s : State) (x : WrStatus) : (s.setWrSt x).cmdl = s.cmdl := rfl
@[simp] theorem State.setWrSt_ctx (s : State) (x : WrStatus) : (s.setWrSt x).ctx = s.ctx := rfl
@[simp] theorem State.setWrSt_etag (s : State) (x : WrStatus) : (s.setWrSt x).etag = s.etag := rfl
@[simp] theorem State.setWrSt_pending (s : State) (x : WrStatus) : (s.setWrSt x).pending = s.pending := rfl
@[simp] theorem State.setWrSt_draws (s : State) (x : WrStatus) : (s.setWrSt x).draws = s.draws := rfl
@[simp] theorem State.setWrSt_params (s : State) (x : WrStatus) : (s.setWrSt x).params = s.params := rfl
@[simp] theorem State.setWrSt_env (s : State) (x : WrStatus) : (s.setWrSt x).env = s.env := rfl
@[simp] theorem State.setWrSt_buf (s : State) (x : WrStatus) (q' : BufId) : (s.setWrSt x).buf q' = s.buf q' := rfl

@[simp] theorem State.setAuth_bufs (s : State) (b : Bool) : (s.setAuth b).bufs = s.bufs := rfl
@[simp] theorem State.setAuth_fsm (s : State) (b : Bool) : (s.setAuth b).fsm = s.fsm := rfl
@[simp] theorem State.setAuth_label (s : State) (b : Bool) : (s.setAuth b).label = s.label := rfl
@[simp] theorem State.setAuth_last (s : State) (b : Bool) : (s.setAuth b).last = s.last := rfl
@[simp] theorem State.setAuth_rdSt (s : State) (b : Bool) : (s.setAuth b).rdSt = s.rdSt := rfl
@[simp] theorem State.setAuth_wrSt (s : State) (b : Bool) : (s.setAuth b).wrSt = s.wrSt := rfl
@[simp] theorem State.setAuth_auth (s : State) (b : Bool) : (s.setAuth b).auth = b := rfl
@[simp] theorem State.setAuth_result (s : State) (b : Bool) : (s.setAuth b).result = s.result := rfl
@[simp] theorem State.setAuth_cntIn (s : State) (b : Bool) : (s.setAuth b).cntIn = s.cntIn := rfl
@[simp] theorem State.setAuth_cntOut (s : State) (b : Bool) : (s.setAuth b).cntOut = s.cntOut := rfl
@[simp] theorem State.setAuth_key (s : State) (b : Bool) : (s.setAuth b).key = s.key := rfl
@[simp] theorem State.setAuth_ivmem (s : State) (b : Bool) : (s.setAuth b).ivmem = s.ivmem := rfl
@[simp] theorem State.setAuth_cmdl (s : State) (b : Bool) : (s.setAuth b).cmdl = s.cmdl := rfl
@[simp] theorem State.setAuth_ctx (s : State) (b : Bool) : (s.setAuth b).ctx = s.ctx := rfl
@[simp] theorem State.setAuth_etag (s : State) (b : Bool) : (s.setAuth b).etag = s.etag := rfl
@[simp] theorem State.setAuth_pending (s : State) (b : Bool) : (s.setAuth b).pending = s.pending := rfl
@[simp] theorem State.setAuth_draws (s : State) (b : Bool) : (s.setAuth b).draws = s.draws := rfl
@[simp] theorem State.setAuth_params (s : State) (b : Bool) : (s.setAuth b).params = s.params := rfl
@[simp] theorem State.setAuth_env (s : State) (b : Bool) : (s.setAuth b).env = s.env := rfl
@[simp] theorem State.setAuth_buf (s : State) (b : Bool) (q' : BufId) : (s.setAuth b).buf q' = s.buf q' := rfl

@[simp] theorem State.markLast_bufs (s : State) : (s.markLast).bufs = s.bufs := rfl
@[simp] theorem State.markLast_fsm (s : State) : (s.markLast).fsm = s.fsm := rfl
@[simp] theorem State.markLast_label (s : State) : (s.markLast).label = s.label := rfl
@[simp] theorem State.markLast_last (s : State) : (s.markLast).last = decide ((s.buf .in_).length < s.params.chunk) := rfl
@[simp] theorem State.markLast_rdSt (s : State) : (s.markLast).rdSt = s.rdSt := rfl
@[simp] theorem State.markLast_wrSt (s : State) : (s.markLast).wrSt = s.wrSt := rfl
@[simp] theorem State.markLast_auth (s : State) : (s.markLast).auth = s.auth := rfl
@[simp] theorem State.markLast_result (s : State) : (s.markLast).result = s.result := rfl
@[simp] theorem State.markLast_cntIn (s : State) : (s.markLast).cntIn = s.cntIn := rfl
@[simp] theorem State.markLast_cntOut (s : State) : (s.markLast).cntOut = s.cntOut := rfl
@[simp] theorem State.markLast_key (s : State) : (s.markLast).key = s.key := rfl
@[simp] theorem State.markLast_ivmem (s : State) : (s.markLast).ivmem = s.ivmem := rfl
@[simp] theorem State.markLast_cmdl (s : State) : (s.markLast).cmdl = s.cmdl := rfl
@[simp] theorem State.markLast_ctx (s : State) : (s.markLast).ctx = s.ctx := rfl
@[simp] theorem State.markLast_etag (s : State) : (s.markLast).etag = s.etag := rfl
@[simp] theorem State.markLast_pending (s : State) : (s.markLast).pending = s.pending := rfl
@[simp] theorem State.markLast_draws (s : State) : (s.markLast).draws = s.draws := rfl
@[simp] theorem State.markLast_params (s : State) : (s.markLast).params = s.params := rfl
@[simp] theorem State.markLast_env (s : State) : (s.markLast).env = s.env := rfl
@[simp] theorem State.markLast_buf (s : State) (q' : BufId) : (s.markLast).buf q' = s.buf q' := rfl

@[simp] theorem State.countIn_bufs (s : State) (k : Nat) : (s.countIn k).bufs = s.bufs := rfl
@[simp] theorem State.countIn_fsm (s : State) (k : Nat) : (s.countIn k).fsm = s.fsm := rfl
@[simp] theorem State.countIn_label (s : State) (k : Nat) : (s.countIn k).label = s.label := rfl
@[simp] theorem State.countIn_last (s : State) (k : Nat) : (s.countIn k).last = s.last := rfl
@[simp] theorem State.countIn_rdSt (s : State) (k : Nat) : (s.countIn k).rdSt = s.rdSt := rfl
@[simp] theorem State.countIn_wrSt (s : State) (k : Nat) : (s.countIn k).wrSt = s.wrSt := rfl
@[simp] theorem State.countIn_auth (s : State) (k : Nat) : (s.countIn k).auth = s.auth := rfl
@[simp] theorem State.countIn_result (s : State) (k : Nat) : (s.countIn k).result = s.result := rfl
@[simp] theorem State.countIn_cntIn (s : State) (k : Nat) : (s.countIn k).cntIn = countUp s.params s.cntIn k := rfl
@[simp] theorem State.countIn_cntOut (s : State) (k : Nat) : (s.countIn k).cntOut = s.cntOut := rfl
@[simp] theorem State.countIn_key (s : State) (k : Nat) : (s.countIn k).key = s.key := rfl
@[simp] theorem State.countIn_ivmem (s : State) (k : Nat) : (s.countIn k).ivmem = s.ivmem := rfl
@[simp] theorem State.countIn_cmdl (s : State) (k : Nat) : (s.countIn k).cmdl = s.cmdl := rfl
@[simp] theorem State.countIn_ctx (s : State) (k : Nat) : (s.countIn k).ctx = s.ctx := rfl
@[simp] theorem State.countIn_etag (s : State) (k : Nat) : (s.countIn k).etag = s.etag := rfl
@[simp] theorem State.countIn_pending (s : State) (k : Nat) : (s.countIn k).pending = s.pending := rfl
@[simp] theorem State.countIn_draws (s : State) (k : Nat) : (s.countIn k).draws = s.draws := rfl
@[simp] theorem State.countIn_params (s : State) (k : Nat) : (s.countIn k).params = s.params := rfl
@[simp] theorem State.countIn_env (s : State) (k : Nat) : (s.countIn k).env = s.env := rfl
@[simp] theorem State.countIn_buf (s : State) (k : Nat) (q' : BufId) : (s.countIn k).buf q' = s.buf q' := rfl

@[simp] theorem State.countOut_bufs (s : State) : (s.countOut).bufs = s.bufs := rfl
@[simp] theorem State.countOut_fsm (s : State) : (s.countOut).fsm = s.fsm := rfl
@[simp] theorem State.countOut_label (s : State) : (s.countOut).label = s.label := rfl
@[simp] theorem State.countOut_last (s : State) : (s.countOut).last = s.last := rfl
@[simp] theorem State.countOut_rdSt (s : State) : (s.countOut).rdSt = s.rdSt := rfl
@[simp] theorem State.countOut_wrSt (s : State) : (s.countOut).wrSt = s.wrSt := rfl
@[simp] theorem State.countOut_auth (s : State) : (s.countOut).auth = s.auth := rfl
@[simp] theorem State.countOut_result (s : State) : (s.countOut).result = s.result := rfl
@[simp] theorem State.countOut_cntIn (s : State) : (s.countOut).cntIn = s.cntIn := rfl
@[simp] theorem State.countOut_cntOut (s : State) : (s.countOut).cntOut = countUp s.params s.cntOut (s.buf .out).length := rfl
@[simp] theorem State.countOut_key (s : State) : (s.countOut).key = s.key := rfl
@[simp] theorem State.countOut_ivmem (s : State) : (s.countOut).ivmem = s.ivmem := rfl
@[simp] theorem State.countOut_cmdl (s : State) : (s.countOut).cmdl = s.cmdl := rfl
@[simp] theorem State.countOut_ctx (s : State) : (s.countOut).ctx = s.ctx := rfl
@[simp] theorem State.countOut_etag (s : State) : (s.countOut).etag = s.etag := rfl
@[simp] theorem State.countOut_pending (s : State) : (s.countOut).pending = s.pending := rfl
@[simp] theorem State.countOut_draws (s : State) : (s.countOut).draws = s.draws := rfl
@[simp] theorem State.countOut_params (s : State) : (s.countOut).params = s.params := rfl
@[simp] theorem State.countOut_env (s : State) : (s.countOut).env = s.env := rfl
@[simp] theorem State.countOut_buf (s : State) (q' : BufId) : (s.countOut).buf q' = s.buf q' := rfl

@[simp] theorem State.drawn_bufs (s : State) (n : Nat) : (s.drawn n).bufs = s.bufs := rfl
@[simp] theorem State.drawn_fsm (s : State) (n : Nat) : (s.drawn n).fsm = s.fsm := rfl
@[simp] theorem State.drawn_label (s : State) (n : Nat) : (s.drawn n).label = s.label := rfl
@[simp] theorem State.drawn_last (s : State) (n : Nat) : (s.drawn n).last = s.last := rfl
@[simp] theorem State.drawn_rdSt (s : State) (n : Nat) : (s.drawn n).rdSt = s.rdSt := rfl
@[simp] theorem State.drawn_wrSt (s : State) (n : Nat) : (s.drawn n).wrSt = s.wrSt := rfl
@[simp] theorem State.drawn_auth (s : State) (n : Nat) : (s.drawn n).auth = s.auth := rfl
@[simp] theorem State.drawn_result (s : State) (n : Nat) : (s.drawn n).result = s.result := rfl
@[simp] theorem State.drawn_cntIn (s : State) (n : Nat) : (s.drawn n).cntIn = s.cntIn := rfl
@[simp] theorem State.drawn_cntOut (s : State) (n : Nat) : (s.drawn n).cntOut = s.cntOut := rfl
@[simp] theorem State.drawn_key (s : State) (n : Nat) : (s.drawn n).key = s.key := rfl
@[simp] theorem State.drawn_ivmem (s : State) (n : Nat) : (s.drawn n).ivmem = s.ivmem := rfl
@[simp] theorem State.drawn_cmdl (s : State) (n : Nat) : (s.drawn n).cmdl = s.cmdl := rfl
@[simp] theorem State.drawn_ctx (s : State) (n : Nat) : (s.drawn n).ctx = s.ctx := rfl
@[simp] theorem State.drawn_etag (s : State) (n : Nat) : (s.drawn n).etag = s.etag := rfl
@[simp] theorem State.drawn_pending (s : State) (n : Nat) : (s.drawn n).pending = s.pending := rfl
@[simp] theorem State.drawn_draws (s : State) (n : Nat) : (s.drawn n).draws = s.draws + n := rfl
@[simp] theorem State.drawn_params (s : State) (n : Nat) : (s.drawn n).params = s.params := rfl
@[simp] theorem State.drawn_env (s : State) (n : Nat) : (s.drawn n).env = s.env := rfl
@[simp] theorem State.drawn_buf (s : State) (n : Nat) (q' : BufId) : (s.drawn n).buf q' = s.buf q' := rfl

@[simp] theorem State.reissue_bufs (s : State) (i : Instr) : (s.reissue i).bufs = s.bufs := rfl
@[simp] theorem State.reissue_fsm (s : State) (i : Instr) : (s.reissue i).fsm = s.fsm := rfl
@[simp] theorem State.reissue_label (s : State) (i : Instr) : (s.reissue i).label = s.label := rfl
@[simp] theorem State.reissue_last (s : State) (i : Instr) : (s.reissue i).last = s.last := rfl
@[simp] theorem State.reissue_rdSt (s : State) (i : Instr) : (s.reissue i).rdSt = s.rdSt := rfl
@[simp] theorem State.reissue_wrSt (s : State) (i : Instr) : (s.reissue i).wrSt = s.wrSt := rfl
@[simp] theorem State.reissue_auth (s : State) (i : Instr) : (s.reissue i).auth = s.auth := rfl
@[simp] theorem State.reissue_result (s : State) (i : Instr) : (s.reissue i).result = s.result := rfl
@[simp] theorem State.reissue_cntIn (s : State) (i : Instr) : (s.reissue i).cntIn = s.cntIn := rfl
@[simp] theorem State.reissue_cntOut (s : State) (i : Instr) : (s.reissue i).cntOut = s.cntOut := rfl
@[simp] theorem State.reissue_key (s : State) (i : Instr) : (s.reissue i).key = s.key := rfl
@[simp] theorem State.reissue_ivmem (s : State) (i : Instr) : (s.reissue i).ivmem = s.ivmem := rfl
@[simp] theorem State.reissue_cmdl (s : State) (i : Instr) : (s.reissue i).cmdl = s.cmdl := rfl
@[simp] theorem State.reissue_ctx (s : State) (i : Instr) : (s.reissue i).ctx = s.ctx := rfl
@[simp] theorem State.reissue_etag (s : State) (i : Instr) : (s.reissue i).etag = s.etag := rfl
@[simp] theorem State.reissue_pending (s : State) (i : Instr) : (s.reissue i).pending = .op (encode i) :: s.pending := rfl
@[simp] theorem State.reissue_draws (s : State) (i : Instr) : (s.reissue i).draws = s.draws := rfl
@[simp] theorem State.reissue_params (s : State) (i : Instr) : (s.reissue i).params = s.params := rfl
@[simp] theorem State.reissue_env (s : State) (i : Instr) : (s.reissue i).env = s.env := rfl
@[simp] theorem State.reissue_buf (s : State) (i : Instr) (q' : BufId) : (s.reissue i).buf q' = s.buf q' := rfl

@[simp] theorem State.received_bufs (s : State) (n : Nat) (b : List Byte) (x : RdStatus) (q : List ReadAnswer) : (s.received n b x q).bufs = s.bufs := rfl
@[simp] theorem State.received_fsm (s : State) (n : Nat) (b : List Byte) (x : RdStatus) (q : List ReadAnswer) : (s.received n b x q).fsm = s.fsm := rfl
@[simp] theorem State.received_label (s : State) (n : Nat) (b : List Byte) (x : RdStatus) (q : List ReadAnswer) : (s.received n b x q).label = s.label := rfl
@[simp] theorem State.received_last (s : State) (n : Nat) (b : List Byte) (x : RdStatus) (q : List ReadAnswer) : (s.received n b x q).last = s.last := rfl
@[simp] theorem State.received_rdSt (s : State) (n : Nat) (b : List Byte) (x : RdStatus) (q : List ReadAnswer) : (s.received n b x q).rdSt = s.rdSt := rfl
@[simp] theorem State.received_wrSt (s : State) (n : Nat) (b : List Byte) (x : RdStatus) (q : List ReadAnswer) : (s.received n b x q).wrSt = s.wrSt := rfl
@[simp] theorem State.received_auth (s : State) (n : Nat) (b : List Byte) (x : RdStatus) (q : List ReadAnswer) : (s.received n b x q).auth = s.auth := rfl
@[simp] theorem State.received_result (s : State) (n : Nat) (b : List Byte) (x : RdStatus) (q : List ReadAnswer) : (s.received n b x q).result = s.result := rfl
@[simp] theorem State.received_cntIn (s : State) (n : Nat) (b : List Byte) (x : RdStatus) (q : List ReadAnswer) : (s.received n b x q).cntIn = s.cntIn := rfl
@[simp] theorem State.received_cntOut (s : State) (n : Nat) (b : List Byte) (x : RdStatus) (q : List ReadAnswer) : (s.received n b x q).cntOut = s.cntOut := rfl
@[simp] theorem State.received_key (s : State) (n : Nat) (b : List Byte) (x : RdStatus) (q : List ReadAnswer) : (s.received n b x q).key = s.key := rfl
@[simp] theorem State.received_ivmem (s : State) (n : Nat) (b : List Byte) (x : RdStatus) (q : List ReadAnswer) : (s.received n b x q).ivmem = s.ivmem := rfl
@[simp] theorem State.received_cmdl (s : State) (n : Nat) (b : List Byte) (x : RdStatus) (q : List ReadAnswer) : (s.received n b x q).cmdl = s.cmdl := rfl
@[simp] theorem State.received_ctx (s : State) (n : Nat) (b : List Byte) (x : RdStatus) (q : List ReadAnswer) : (s.received n b x q).ctx = s.ctx := rfl
@[simp] theorem State.received_etag (s : State) (n : Nat) (b : List Byte) (x : RdStatus) (q : List ReadAnswer) : (s.received n b x q).etag = s.etag := rfl
@[simp] theorem State.received_pending (s : State) (n : Nat) (b : List Byte) (x : RdStatus) (q : List ReadAnswer) : (s.received n b x q).pending = s.pending := rfl
@[simp] theorem State.received_draws (s : State) (n : Nat) (b : List Byte) (x : RdStatus) (q : List ReadAnswer) : (s.received n b x q).draws = s.draws := rfl
@[simp] theorem State.received_params (s : State) (n : Nat) (b : List Byte) (x : RdStatus) (q : List ReadAnswer) : (s.received n b x q).params = s.params := rfl
@[simp] theorem State.received_buf (s : State) (n : Nat) (b : List Byte) (x : RdStatus) (q : List ReadAnswer) (q' : BufId) : (s.received n b x q).buf q' = s.buf q' := rfl

@[simp] theorem State.sent_bufs (s : State) (b : List Byte) (k : Nat) (x : WrStatus) (q : List WriteAnswer) : (s.sent b k x q).bufs = s.bufs := rfl
@[simp] theorem State.sent_fsm (s : State) (b : List Byte) (k : Nat) (x : WrStatus) (q : List WriteAnswer) : (s.sent b k x q).fsm = s.fsm := rfl
@[simp] theorem State.sent_label (s : State) (b : List Byte) (k : Nat) (x : WrStatus) (q : List WriteAnswer) : (s.sent b k x q).label = s.label := rfl
@[simp] theorem State.sent_last (s : State) (b : List Byte) (k : Nat) (x : WrStatus) (q : List WriteAnswer) : (s.sent b k x q).last = s.last := rfl
@[simp] theorem State.sent_rdSt (s : State) (b : List Byte) (k : Nat) (x : WrStatus) (q : List WriteAnswer) : (s.sent b k x q).rdSt = s.rdSt := rfl
@[simp] theorem State.sent_wrSt (s : State) (b : List Byte) (k : Nat) (x : WrStatus) (q : List WriteAnswer) : (s.sent b k x q).wrSt = s.wrSt := rfl
@[simp] theorem State.sent_auth (s : State) (b : List Byte) (k : Nat) (x : WrStatus) (q : List WriteAnswer) : (s.sent b k x q).auth = s.auth := rfl
@[simp] theorem State.sent_result (s : State) (b : List Byte) (k : Nat) (x : WrStatus) (q : List WriteAnswer) : (s.sent b k x q).result = s.result := rfl
@[simp] theorem State.sent_cntIn (s : State) (b : List Byte) (k : Nat) (x : WrStatus) (q : List WriteAnswer) : (s.sent b k x q).cntIn = s.cntIn := rfl
@[simp] theorem State.sent_cntOut (s : State) (b : List Byte) (k : Nat) (x : WrStatus) (q : List WriteAnswer) : (s.sent b k x q).cntOut = s.cntOut := rfl
@[simp] theorem State.sent_key (s : State) (b : List Byte) (k : Nat) (x : WrStatus) (q : List WriteAnswer) : (s.sent b k x q).key = s.key := rfl
@[simp] theorem State.sent_ivmem (s : State) (b : List Byte) (k : Nat) (x : WrStatus) (q : List WriteAnswer) : (s.sent b k x q).ivmem = s.ivmem := rfl
@[simp] theorem State.sent_cmdl (s : State) (b : List Byte) (k : Nat) (x : WrStatus) (q : List WriteAnswer) : (s.sent b k x q).cmdl = s.cmdl := rfl
@[simp] theorem State.sent_ctx (s : State) (b : List Byte) (k : Nat) (x : WrStatus) (q : List WriteAnswer) : (s.sent b k x q).ctx = s.ctx := rfl
@[simp] theorem State.sent_etag (s : State) (b : List Byte) (k : Nat) (x : WrStatus) (q : List WriteAnswer) : (s.sent b k x q).etag = s.etag := rfl
@[simp] theorem State.sent_pending (s : State) (b : List Byte) (k : Nat) (x : WrStatus) (q : List WriteAnswer) : (s.sent b k x q).pending = s.pending := rfl
@[simp] theorem State.sent_draws (s : State) (b : List Byte) (k : Nat) (x : WrStatus) (q : List WriteAnswer) : (s.sent b k x q).draws = s.draws := rfl
@[simp] theorem State.sent_params (s : State) (b : List Byte) (k : Nat) (x : WrStatus) (q : List WriteAnswer) : (s.sent b k x q).params = s.params := rfl
@[simp] theorem State.sent_buf (s : State) (b : List Byte) (k : Nat) (x : WrStatus) (q : List WriteAnswer) (q' : BufId) : (s.sent b k x q).buf q' = s.buf q' := rfl

@[simp] theorem State.sendDiag_bufs (s : State) (b : List Byte) : (s.sendDiag b).bufs = s.bufs := rfl
@[simp] theorem State.sendDiag_fsm (s : State) (b : List Byte) : (s.sendDiag b).fsm = s.fsm := rfl
@[simp] theorem State.sendDiag_label (s : State) (b : List Byte) : (s.sendDiag b).label = s.label := rfl
@[simp] theorem State.sendDiag_last (s : State) (b : List Byte) : (s.sendDiag b).last = s.last := rfl
@[simp] theorem State.sendDiag_rdSt (s : State) (b : List Byte) : (s.sendDiag b).rdSt = s.rdSt := rfl
@[simp] theorem State.sendDiag_wrSt (s : State) (b : List Byte) : (s.sendDiag b).wrSt = s.wrSt := rfl
@[simp] theorem State.sendDiag_auth (s : State) (b : List Byte) : (s.sendDiag b).auth = s.auth := rfl
@[simp] theorem State.sendDiag_result (s : State) (b : List Byte) : (s.sendDiag b).result = s.result := rfl
@[simp] theorem State.sendDiag_cntIn (s : State) (b : List Byte) : (s.sendDiag b).cntIn = s.cntIn := rfl
@[simp] theorem State.sendDiag_cntOut (s : State) (b : List Byte) : (s.sendDiag b).cntOut = s.cntOut := rfl
@[simp] theorem State.sendDiag_key (s : State) (b : List Byte) : (s.sendDiag b).key = s.key := rfl
@[simp] theorem State.sendDiag_ivmem (s : State) (b : List Byte) : (s.sendDiag b).ivmem = s.ivmem := rfl
@[simp] theorem State.sendDiag_cmdl (s : State) (b : List Byte) : (s.sendDiag b).cmdl = s.cmdl := rfl
@[simp] theorem State.sendDiag_ctx (s : State) (b : List Byte) : (s.sendDiag b).ctx = s.ctx := rfl
@[simp] theorem State.sendDiag_etag (s : State) (b : List Byte) : (s.sendDiag b).etag = s.etag := rfl
@[simp] theorem State.sendDiag_pending (s : State) (b : List Byte) : (s.sendDiag b).pending = s.pending := rfl
@[simp] theorem State.sendDiag_draws (s : State) (b : List Byte) : (s.sendDiag b).draws = s.draws := rfl
@[simp] theorem State.sendDiag_params (s : State) (b : List Byte) : (s.sendDiag b).params = s.params := rfl
@[simp] theorem State.sendDiag_buf (s : State) (b : List Byte) (q' : BufId) : (s.sendDiag b).buf q' = s.buf q' := rfl

@[simp] theorem State.saw_bufs (s : State) (x : HostSeen) : (s.saw x).bufs = s.bufs := rfl
@[simp] theorem State.saw_fsm (s : State) (x : HostSeen) : (s.saw x).fsm = s.fsm := rfl
@[simp] theorem State.saw_label (s : State) (x : HostSeen) : (s.saw x).label = s.label := rfl
@[simp] theorem State.saw_last (s : State) (x : HostSeen) : (s.saw x).last = s.last := rfl
@[simp] theorem State.saw_rdSt (s : State) (x : HostSeen) : (s.saw x).rdSt = s.rdSt := rfl
@[simp] theorem State.saw_wrSt (s : State) (x : HostSeen) : (s.saw x).wrSt = s.wrSt := rfl
@[simp] theorem State.saw_auth (s : State) (x : HostSeen) : (s.saw x).auth = s.auth := rfl
@[simp] theorem State.saw_result (s : State) (x : HostSeen) : (s.saw x).result = s.result := rfl
@[simp] theorem State.saw_cntIn (s : State) (x : HostSeen) : (s.saw x).cntIn = s.cntIn := rfl
@[simp] theorem State.saw_cntOut (s : State) (x : HostSeen) : (s.saw x).cntOut = s.cntOut := rfl
@[simp] theorem State.saw_key (s : State) (x : HostSeen) : (s.saw x).key = s.key := rfl
@[simp] theorem State.saw_ivmem (s : State) (x : HostSeen) : (s.saw x).ivmem = s.ivmem := rfl
@[simp] theorem State.saw_cmdl (s : State) (x : HostSeen) : (s.saw x).cmdl = s.cmdl := rfl
@[simp] theorem State.saw_ctx (s : State) (x : HostSeen) : (s.saw x).ctx = s.ctx := rfl
@[simp] theorem State.saw_etag (s : State) (x : HostSeen) : (s.saw x).etag = s.etag := rfl
@[simp] theorem State.saw_pending (s : State) (x : HostSeen) : (s.saw x).pending = s.pending := rfl
@[simp] theorem State.saw_draws (s : State) (x : HostSeen) : (s.saw x).draws = s.draws := rfl
@[simp] theorem State.saw_params (s : State) (x : HostSeen) : (s.saw x).params = s.params := rfl
@[simp] theorem State.saw_buf (s : State) (x : HostSeen) (q' : BufId) : (s.saw x).buf q' = s.buf q' := rfl

@[simp] theorem State.setHost_bufs (s : State) (h : List HostEvent) : (s.setHost h).bufs = s.bufs := rfl
@[simp] theorem State.setHost_fsm (s : State) (h : List HostEvent) : (s.setHost h).fsm = s.fsm := rfl
@[simp] theorem State.setHost_label (s : State) (h : List HostEvent) : (s.setHost h).label = s.label := rfl
@[simp] theorem State.setHost_last (s : State) (h : List HostEvent) : (s.setHost h).last = s.last := rfl
@[simp] theorem State.setHost_rdSt (s : State) (h : List HostEvent) : (s.setHost h).rdSt = s.rdSt := rfl
@[simp] theorem State.setHost_wrSt (s : State) (h : List HostEvent) : (s.setHost h).wrSt = s.wrSt := rfl
@[simp] theorem State.setHost_auth (s : State) (h : List HostEvent) : (s.setHost h).auth = s.auth := rfl
@[simp] theorem State.setHost_result (s : State) (h : List HostEvent) : (s.setHost h).result = s.result := rfl
@[simp] theorem State.setHost_cntIn (s : State) (h : List HostEvent) : (s.setHost h).cntIn = s.cntIn := rfl
@[simp] theorem State.setHost_cntOut (s : State) (h : List HostEvent) : (s.setHost h).cntOut = s.cntOut := rfl
@[simp] theorem State.setHost_key (s : State) (h : List HostEvent) : (s.setHost h).key = s.key := rfl
@[simp] theorem State.setHost_ivmem (s : State) (h : List HostEvent) : (s.setHost h).ivmem = s.ivmem := rfl
@[simp] theorem State.setHost_cmdl (s : State) (h : List HostEvent) : (s.setHost h).cmdl = s.cmdl := rfl
@[simp] theorem State.setHost_ctx (s : State) (h : List HostEvent) : (s.setHost h).ctx = s.ctx := rfl
@[simp] theorem State.setHost_etag (s : State) (h : List HostEvent) : (s.setHost h).etag = s.etag := rfl
@[simp] theorem State.setHost_pending (s : State) (h : List HostEvent) : (s.setHost h).pending = s.pending := rfl
@[simp] theorem State.setHost_draws (s : State) (h : List HostEvent) : (s.setHost h).draws = s.draws := rfl
@[simp] theorem State.setHost_params (s : State) (h : List HostEvent) : (s.setHost h).params = s.params := rfl
@[simp] theorem State.setHost_env (s : State) (h : List HostEvent) : (s.setHost h).env = { s.env with host := h } := rfl
@[simp] theorem State.setHost_buf (s : State) (h : List HostEvent) (q' : BufId) : (s.setHost h).buf q' = s.buf q' := rfl

@[simp] theorem abort_bufs (c : Code) (s : State) : (abort c s).bufs = Bufs.empty := rfl
@[simp] theorem abort_fsm (c : Code) (s : State) : (abort c s).fsm = .done := rfl
@[simp] theorem abort_label (c : Code) (s : State) : (abort c s).label = .st0 := rfl
@[simp] theorem abort_last (c : Code) (s : State) : (abort c s).last = s.last := rfl
@[simp] theorem abort_rdSt (c : Code) (s : State) : (abort c s).rdSt = s.rdSt := rfl
@[simp] theorem abort_wrSt (c : Code) (s : State) : (abort c s).wrSt = s.wrSt := rfl
@[simp] theorem abort_auth (c : Code) (s : State) : (abort c s).auth = false := rfl
@[simp] theorem abort_result (c : Code) (s : State) : (abort c s).result = resultByte s.cmdlDir false c := rfl
@[simp] theorem abort_cntIn (c : Code) (s : State) : (abort c s).cntIn = s.cntIn := rfl
@[simp] theorem abort_cntOut (c : Code) (s : State) : (abort c s).cntOut = s.cntOut := rfl
@[simp] theorem abort_key (c : Code) (s : State) : (abort c s).key = s.key := rfl
@[simp] theorem abort_ivmem (c : Code) (s : State) : (abort c s).ivmem = s.ivmem := rfl
@[simp] theorem abort_cmdl (c : Code) (s : State) : (abort c s).cmdl = s.cmdl := rfl
@[simp] theorem abort_ctx (c : Code) (s : State) : (abort c s).ctx = Ctx.zero := rfl
@[simp] theorem abort_etag (c : Code) (s : State) : (abort c s).etag = 0 := rfl
@[simp] theorem abort_pending (c : Code) (s : State) : (abort c s).pending = [] := rfl
@[simp] theorem abort_draws (c : Code) (s : State) : (abort c s).draws = s.draws := rfl
@[simp] theorem abort_params (c : Code) (s : State) : (abort c s).params = s.params := rfl
@[simp] theorem abort_env (c : Code) (s : State) : (abort c s).env = s.env := rfl

@[simp] theorem beginCall_bufs (s : State) : (beginCall s).bufs = Bufs.empty := rfl
@[simp] theorem beginCall_fsm (s : State) : (beginCall s).fsm = .streaming := rfl
@[simp] theorem beginCall_label (s : State) : (beginCall s).label = .st0 := rfl
@[simp] theorem beginCall_last (s : State) : (beginCall s).last = false := rfl
@[simp] theorem beginCall_rdSt (s : State) : (beginCall s).rdSt = .ok := rfl
@[simp] theorem beginCall_wrSt (s : State) : (beginCall s).wrSt = .ok := rfl
@[simp] theorem beginCall_auth (s : State) : (beginCall s).auth = false := rfl
@[simp] theorem beginCall_result (s : State) : (beginCall s).result = 0x0F := rfl
@[simp] theorem beginCall_cntIn (s : State) : (beginCall s).cntIn = 0 := rfl
@[simp] theorem beginCall_cntOut (s : State) : (beginCall s).cntOut = 0 := rfl
@[simp] theorem beginCall_key (s : State) : (beginCall s).key = s.key := rfl
@[simp] theorem beginCall_ivmem (s : State) : (beginCall s).ivmem = s.ivmem := rfl
@[simp] theorem beginCall_cmdl (s : State) : (beginCall s).cmdl = s.cmdl := rfl
@[simp] theorem beginCall_ctx (s : State) : (beginCall s).ctx = s.ctx := rfl
@[simp] theorem beginCall_etag (s : State) : (beginCall s).etag = s.etag := rfl
@[simp] theorem beginCall_pending (s : State) : (beginCall s).pending = s.pending := rfl
@[simp] theorem beginCall_draws (s : State) : (beginCall s).draws = s.draws := rfl
@[simp] theorem beginCall_params (s : State) : (beginCall s).params = s.params := rfl
@[simp] theorem beginCall_env (s : State) : (beginCall s).env = s.env := rfl

@[simp] theorem finishCall_bufs (r : BitVec 8) (s : State) : (finishCall r s).bufs = Bufs.empty := rfl
@[simp] theorem finishCall_fsm (r : BitVec 8) (s : State) : (finishCall r s).fsm = .done := rfl
@[simp] theorem finishCall_label (r : BitVec 8) (s : State) : (finishCall r s).label = .st0 := rfl
@[simp] theorem finishCall_last (r : BitVec 8) (s : State) : (finishCall r s).last = s.last := rfl
@[simp] theorem finishCall_rdSt (r : BitVec 8) (s : State) : (finishCall r s).rdSt = s.rdSt := rfl
@[simp] theorem finishCall_wrSt (r : BitVec 8) (s : State) : (finishCall r s).wrSt = s.wrSt := rfl
@[simp] theorem finishCall_auth (r : BitVec 8) (s : State) : (finishCall r s).auth = s.auth := rfl
@[simp] theorem finishCall_result (r : BitVec 8) (s : State) : (finishCall r s).result = r := rfl
@[simp] theorem finishCall_cntIn (r : BitVec 8) (s : State) : (finishCall r s).cntIn = s.cntIn := rfl
@[simp] theorem finishCall_cntOut (r : BitVec 8) (s : State) : (finishCall r s).cntOut = s.cntOut := rfl
@[simp] theorem finishCall_key (r : BitVec 8) (s : State) : (finishCall r s).key = s.key := rfl
@[simp] theorem finishCall_ivmem (r : BitVec 8) (s : State) : (finishCall r s).ivmem = s.ivmem := rfl
@[simp] theorem finishCall_cmdl (r : BitVec 8) (s : State) : (finishCall r s).cmdl = s.cmdl := rfl
@[simp] theorem finishCall_ctx (r : BitVec 8) (s : State) : (finishCall r s).ctx = s.ctx := rfl
@[simp] theorem finishCall_etag (r : BitVec 8) (s : State) : (finishCall r s).etag = s.etag := rfl
@[simp] theorem finishCall_pending (r : BitVec 8) (s : State) : (finishCall r s).pending = [] := rfl
@[simp] theorem finishCall_draws (r : BitVec 8) (s : State) : (finishCall r s).draws = s.draws := rfl
@[simp] theorem finishCall_params (r : BitVec 8) (s : State) : (finishCall r s).params = s.params := rfl
@[simp] theorem finishCall_env (r : BitVec 8) (s : State) : (finishCall r s).env = s.env := rfl

@[simp] theorem State.received_env_sIn (s : State) (n : Nat) (b : List Byte) (x : RdStatus) (q : List ReadAnswer) : (s.received n b x q).env.sIn = s.env.sIn := rfl
@[simp] theorem State.received_env_pos (s : State) (n : Nat) (b : List Byte) (x : RdStatus) (q : List ReadAnswer) : (s.received n b x q).env.pos = s.env.pos + b.length := rfl
@[simp] theorem State.received_env_reads (s : State) (n : Nat) (b : List Byte) (x : RdStatus) (q : List ReadAnswer) : (s.received n b x q).env.reads = q := rfl
@[simp] theorem State.received_env_sink (s : State) (n : Nat) (b : List Byte) (x : RdStatus) (q : List ReadAnswer) : (s.received n b x q).env.sink = s.env.sink := rfl
@[simp] theorem State.received_env_writes (s : State) (n : Nat) (b : List Byte) (x : RdStatus) (q : List ReadAnswer) : (s.received n b x q).env.writes = s.env.writes := rfl
@[simp] theorem State.received_env_history (s : State) (n : Nat) (b : List Byte) (x : RdStatus) (q : List ReadAnswer) : (s.received n b x q).env.history = s.env.history ++ [.read n b x] := rfl
@[simp] theorem State.received_env_engine (s : State) (n : Nat) (b : List Byte) (x : RdStatus) (q : List ReadAnswer) : (s.received n b x q).env.engine = s.env.engine := rfl
@[simp] theorem State.received_env_host (s : State) (n : Nat) (b : List Byte) (x : RdStatus) (q : List ReadAnswer) : (s.received n b x q).env.host = s.env.host := rfl
@[simp] theorem State.received_env_hostSaw (s : State) (n : Nat) (b : List Byte) (x : RdStatus) (q : List ReadAnswer) : (s.received n b x q).env.hostSaw = s.env.hostSaw := rfl

@[simp] theorem State.sent_env_sIn (s : State) (b : List Byte) (k : Nat) (x : WrStatus) (q : List WriteAnswer) : (s.sent b k x q).env.sIn = s.env.sIn := rfl
@[simp] theorem State.sent_env_pos (s : State) (b : List Byte) (k : Nat) (x : WrStatus) (q : List WriteAnswer) : (s.sent b k x q).env.pos = s.env.pos := rfl
@[simp] theorem State.sent_env_reads (s : State) (b : List Byte) (k : Nat) (x : WrStatus) (q : List WriteAnswer) : (s.sent b k x q).env.reads = s.env.reads := rfl
@[simp] theorem State.sent_env_sink (s : State) (b : List Byte) (k : Nat) (x : WrStatus) (q : List WriteAnswer) : (s.sent b k x q).env.sink = s.env.sink ++ b.take k := rfl
@[simp] theorem State.sent_env_writes (s : State) (b : List Byte) (k : Nat) (x : WrStatus) (q : List WriteAnswer) : (s.sent b k x q).env.writes = q := rfl
@[simp] theorem State.sent_env_history (s : State) (b : List Byte) (k : Nat) (x : WrStatus) (q : List WriteAnswer) : (s.sent b k x q).env.history = s.env.history ++ [.write b k x] := rfl
@[simp] theorem State.sent_env_engine (s : State) (b : List Byte) (k : Nat) (x : WrStatus) (q : List WriteAnswer) : (s.sent b k x q).env.engine = s.env.engine := rfl
@[simp] theorem State.sent_env_host (s : State) (b : List Byte) (k : Nat) (x : WrStatus) (q : List WriteAnswer) : (s.sent b k x q).env.host = s.env.host := rfl
@[simp] theorem State.sent_env_hostSaw (s : State) (b : List Byte) (k : Nat) (x : WrStatus) (q : List WriteAnswer) : (s.sent b k x q).env.hostSaw = s.env.hostSaw := rfl

@[simp] theorem State.sendDiag_env_sIn (s : State) (b : List Byte) : (s.sendDiag b).env.sIn = s.env.sIn := rfl
@[simp] theorem State.sendDiag_env_pos (s : State) (b : List Byte) : (s.sendDiag b).env.pos = s.env.pos := rfl
@[simp] theorem State.sendDiag_env_reads (s : State) (b : List Byte) : (s.sendDiag b).env.reads = s.env.reads := rfl
@[simp] theorem State.sendDiag_env_sink (s : State) (b : List Byte) : (s.sendDiag b).env.sink = s.env.sink := rfl
@[simp] theorem State.sendDiag_env_writes (s : State) (b : List Byte) : (s.sendDiag b).env.writes = s.env.writes := rfl
@[simp] theorem State.sendDiag_env_history (s : State) (b : List Byte) : (s.sendDiag b).env.history = s.env.history ++ [.diag b] := rfl
@[simp] theorem State.sendDiag_env_engine (s : State) (b : List Byte) : (s.sendDiag b).env.engine = s.env.engine := rfl
@[simp] theorem State.sendDiag_env_host (s : State) (b : List Byte) : (s.sendDiag b).env.host = s.env.host := rfl
@[simp] theorem State.sendDiag_env_hostSaw (s : State) (b : List Byte) : (s.sendDiag b).env.hostSaw = s.env.hostSaw := rfl

@[simp] theorem State.saw_env_sIn (s : State) (x : HostSeen) : (s.saw x).env.sIn = s.env.sIn := rfl
@[simp] theorem State.saw_env_pos (s : State) (x : HostSeen) : (s.saw x).env.pos = s.env.pos := rfl
@[simp] theorem State.saw_env_reads (s : State) (x : HostSeen) : (s.saw x).env.reads = s.env.reads := rfl
@[simp] theorem State.saw_env_sink (s : State) (x : HostSeen) : (s.saw x).env.sink = s.env.sink := rfl
@[simp] theorem State.saw_env_writes (s : State) (x : HostSeen) : (s.saw x).env.writes = s.env.writes := rfl
@[simp] theorem State.saw_env_history (s : State) (x : HostSeen) : (s.saw x).env.history = s.env.history := rfl
@[simp] theorem State.saw_env_engine (s : State) (x : HostSeen) : (s.saw x).env.engine = s.env.engine := rfl
@[simp] theorem State.saw_env_host (s : State) (x : HostSeen) : (s.saw x).env.host = s.env.host := rfl
@[simp] theorem State.saw_env_hostSaw (s : State) (x : HostSeen) : (s.saw x).env.hostSaw = s.env.hostSaw ++ [x] := rfl

end Sys2Proof.Machine
end

