-- ==== Sys2Proof/Laws/Operands.lean ====
section
/-! SUPPORT. The laws of the register file and of the operand memories: read after write, and that every write keeps
the canonical form and the sizes. -/

namespace Sys2Proof.Machine

@[simp] theorem Bufs.get_set_self (b : Bufs) (r : BufId) (v : List Byte) : (b.set r v).get r = v := by
  cases r <;> rfl

theorem Bufs.get_set_ne (b : Bufs) {r q : BufId} (v : List Byte) (h : q ≠ r) : (b.set r v).get q = b.get q := by
  cases r <;> cases q <;> first | rfl | exact absurd rfl h

@[simp] theorem Bufs.get_empty (r : BufId) : Bufs.empty.get r = [] := by cases r <;> rfl

@[simp] theorem State.setBuf_buf_self (s : State) (r : BufId) (v : List Byte) : (s.setBuf r v).buf r = v :=
  Bufs.get_set_self _ _ _

theorem State.setBuf_buf_ne (s : State) {r q : BufId} (v : List Byte) (h : q ≠ r) :
    (s.setBuf r v).buf q = s.buf q := Bufs.get_set_ne _ _ h

@[simp] theorem State.clearBufs_buf (s : State) (r : BufId) : s.clearBufs.buf r = [] := Bufs.get_empty r

@[simp] theorem abort_buf (c : Code) (s : State) (r : BufId) : (abort c s).buf r = [] := Bufs.get_empty r

/-- Writing a value that fits keeps every register within its capacity. -/
theorem bufsFit_set {p : Params} {b : Bufs} (h : Safety.BufsFit p b) {r : BufId} {v : List Byte}
    (hv : v.length ≤ cap p r) : Safety.BufsFit p (b.set r v) := by
  obtain ⟨h0, h1, h2, h3, h4, h5, h6⟩ := h
  cases r <;> exact ⟨by assumption, by assumption, by assumption, by assumption, by assumption, by assumption,
    by assumption⟩

theorem bufsFit_empty (p : Params) : Safety.BufsFit p Bufs.empty :=
  ⟨Nat.zero_le _, Nat.zero_le _, Nat.zero_le _, Nat.zero_le _, Nat.zero_le _, Nat.zero_le _, Nat.zero_le _⟩

/-- The capacity bound of the structural invariant, register by register. -/
theorem bufsFit_buf {s : State} (h : Safety.BufsFit s.params s.bufs) (r : BufId) :
    (s.buf r).length ≤ cap s.params r := by
  obtain ⟨h0, h1, h2, h3, h4, h5, h6⟩ := h
  cases r <;> assumption

@[simp] theorem Memory.read_nil (a : Nat) : Memory.read [] a = 0 := rfl

@[simp] theorem Memory.slice_length (m : Memory) (a n : Nat) : (Memory.slice m a n).length = n := by
  simp [Memory.slice]

theorem Memory.wf_nil : Memory.wf [] := ⟨List.Pairwise.nil, by simp⟩

/-- The entries of a memory after a write are old ones or the one written. -/
theorem Memory.mem_write {m : Memory} {a : Nat} {b : Byte} {c : Host.Cell} (h : c ∈ Memory.write m a b) :
    c ∈ m ∨ (c = (a, b) ∧ b ≠ 0) := by
  induction m with
  | nil =>
    simp only [Memory.write] at h
    split at h
    · exact absurd h List.not_mem_nil
    · rename_i hb
      exact .inr ⟨List.mem_singleton.1 h, hb⟩
  | cons d m ih =>
    obtain ⟨x, v⟩ := d
    simp only [Memory.write] at h
    split at h
    · split at h
      · exact .inl h
      · rename_i hb
        rcases List.mem_cons.1 h with rfl | h
        · exact .inr ⟨rfl, hb⟩
        · exact .inl h
    · split at h
      · split at h
        · exact .inl (List.mem_cons_of_mem _ h)
        · rename_i hb
          rcases List.mem_cons.1 h with rfl | h
          · exact .inr ⟨rfl, hb⟩
          · exact .inl (List.mem_cons_of_mem _ h)
      · rcases List.mem_cons.1 h with rfl | h
        · exact .inl (List.mem_cons_self ..)
        · rcases ih h with h | h
          · exact .inl (List.mem_cons_of_mem _ h)
          · exact .inr h

/-- A write keeps the canonical form. -/
theorem Memory.wf_write {m : Memory} (h : Memory.wf m) (a : Nat) (b : Byte) : Memory.wf (Memory.write m a b) := by
  refine ⟨?_, fun c hc => ?_⟩
  · obtain ⟨hp, -⟩ := h
    induction m with
    | nil =>
      simp only [Memory.write]
      split
      · exact hp
      · exact List.pairwise_singleton _ _
    | cons d m ih =>
      obtain ⟨x, v⟩ := d
      have hx := List.pairwise_cons.1 hp
      simp only [Memory.write]
      split
      · rename_i hlt
        split
        · exact hp
        · refine List.pairwise_cons.2 ⟨fun c hc => ?_, hp⟩
          rcases List.mem_cons.1 hc with rfl | hc
          · exact hlt
          · exact Nat.lt_trans hlt (hx.1 c hc)
      · split
        · rename_i hlt heq
          split
          · exact hx.2
          · exact List.pairwise_cons.2 ⟨fun c hc => heq ▸ hx.1 c hc, hx.2⟩
        · rename_i hlt hne
          refine List.pairwise_cons.2 ⟨fun c hc => ?_, ih hx.2⟩
          rcases Memory.mem_write hc with hc | ⟨rfl, -⟩
          · exact hx.1 c hc
          · show x < a
            omega
  · rcases Memory.mem_write hc with hc | ⟨rfl, hb⟩
    · exact h.2 c hc
    · exact hb

/-- A write below the size keeps every address below it. -/
theorem Memory.below_write {m : Memory} {size a : Nat} {b : Byte} (h : Memory.below m size) (ha : a < size) :
    Memory.below (Memory.write m a b) size := fun c hc => by
  rcases Memory.mem_write hc with hc | ⟨rfl, -⟩
  · exact h c hc
  · exact ha

theorem Memory.read_of_lt {m : Memory} {a : Nat} (h : ∀ c ∈ m, a < c.1) : Memory.read m a = 0 := by
  induction m with
  | nil => rfl
  | cons d m ih =>
    obtain ⟨x, v⟩ := d
    have hx := h (x, v) (List.mem_cons_self ..)
    have hne : x ≠ a := by simp only at hx; omega
    simp only [Memory.read, if_neg hne]
    exact ih fun c hc => h c (List.mem_cons_of_mem _ hc)

/-- Reading a byte just written gives it. -/
theorem Memory.read_write_self {m : Memory} (h : Memory.wf m) (a : Nat) (b : Byte) :
    Memory.read (Memory.write m a b) a = b := by
  obtain ⟨hp, -⟩ := h
  induction m with
  | nil =>
    simp only [Memory.write]
    split
    · rename_i hb
      exact hb.symm
    · simp [Memory.read]
  | cons d m ih =>
    obtain ⟨x, v⟩ := d
    have hx := List.pairwise_cons.1 hp
    simp only [Memory.write]
    split
    · rename_i hlt
      split
      · rename_i hb
        rw [hb]
        refine Memory.read_of_lt fun c hc => ?_
        rcases List.mem_cons.1 hc with rfl | hc
        · exact hlt
        · exact Nat.lt_trans hlt (hx.1 c hc)
      · simp [Memory.read]
    · split
      · rename_i heq
        split
        · rename_i hb
          rw [hb]
          exact Memory.read_of_lt fun c hc => heq ▸ hx.1 c hc
        · simp [Memory.read]
      · rename_i hlt hne
        have hxa : x ≠ a := fun h => hne h.symm
        simp only [Memory.read, if_neg hxa]
        exact ih hx.2

/-- A write leaves every other byte alone. -/
theorem Memory.read_write_ne (m : Memory) {a q : Nat} (b : Byte) (hq : q ≠ a) :
    Memory.read (Memory.write m a b) q = Memory.read m q := by
  have ha : a ≠ q := fun h => hq h.symm
  induction m with
  | nil =>
    simp only [Memory.write]
    split
    · rfl
    · simp [Memory.read, ha]
  | cons d m ih =>
    obtain ⟨x, v⟩ := d
    simp only [Memory.write]
    split
    · split
      · rfl
      · simp [Memory.read, ha]
    · split
      · rename_i heq
        subst heq
        split
        · simp [Memory.read, ha]
        · simp [Memory.read, ha]
      · simp only [Memory.read, ih]

theorem Memory.wf_writeBytes (size : Nat) {m : Memory} (h : Memory.wf m) (a : Nat) (s : List Byte) :
    Memory.wf (Memory.writeBytes size m a s) := by
  induction s generalizing m a with
  | nil => exact h
  | cons b s ih =>
    simp only [Memory.writeBytes]
    split
    · exact ih (Memory.wf_write h a b) _
    · exact ih h _

theorem Memory.below_writeBytes {size : Nat} {m : Memory} (h : Memory.below m size) (a : Nat) (s : List Byte) :
    Memory.below (Memory.writeBytes size m a s) size := by
  induction s generalizing m a with
  | nil => exact h
  | cons b s ih =>
    simp only [Memory.writeBytes]
    split
    · rename_i ha
      exact ih (Memory.below_write h ha) _
    · exact ih h _

end Sys2Proof.Machine
end

