-- ==== Sys2Proof/Laws/Ops.lean ====
section
/-! SUPPORT. For each shared operation, once: everything it can answer. Proofs cite these and do not unfold the
operations. -/

namespace Sys2Proof.Machine

theorem raise_next {c : Code} {s t : State} (h : raise c s = .next t) : t = abort c s := by
  cases h
  rfl

theorem violate_next {s t : State} (h : violate s = .next t) : t = abort .contractViolation s := raise_next h

/-- `assign` writes a value that fits, and otherwise aborts with a contract violation. -/
theorem assign_next {dst : BufId} {v : List Byte} {s t : State} (h : assign dst v s = .next t) :
    (v.length ≤ cap s.params dst ∧ t = s.setBuf dst v) ∨
    (¬ v.length ≤ cap s.params dst ∧ t = abort .contractViolation s) := by
  unfold assign at h
  split at h
  · rename_i hv
    cases h
    exact .inl ⟨hv, rfl⟩
  · rename_i hv
    exact .inr ⟨hv, violate_next h⟩

theorem assign_eq {dst : BufId} {v : List Byte} {s : State} (h : v.length ≤ cap s.params dst) :
    assign dst v s = .next (s.setBuf dst v) := if_pos h

/-- The engine's oracle answers "no" when nothing is listed, else its next answer, which is used up. -/
theorem askEngine_cases (s : State) :
    (s.env.engine = [] ∧ askEngine s = (.sound, s)) ∨
    ∃ a rest, s.env.engine = a :: rest ∧ askEngine s = (a, s.setEnv { s.env with engine := rest }) := by
  unfold askEngine
  split
  · rename_i h
    exact .inl ⟨h, rfl⟩
  · rename_i a rest h
    exact .inr ⟨a, rest, h, rfl⟩

theorem askEngine_quiet {s : State} (h : s.env.engine = []) : askEngine s = (.sound, s) := by
  simp [askEngine, h]

/-- A read of the stream never gives more bytes than asked for (R62). -/
theorem InStream.slice_length_le (x : InStream) (p k : Nat) : (x.slice p k).length ≤ k := by
  unfold InStream.slice
  split
  · exact List.length_take_le ..
  · simp only [List.length_append, List.length_map, List.length_range, List.length_take]
    omega

theorem InStream.slice_finite (b : List Byte) (p k : Nat) :
    (InStream.mk b none).slice p k = (b.drop p).take k := rfl

theorem nextInput_length_le (s : State) (k : Nat) : (s.nextInput k).length ≤ k := InStream.slice_length_le ..

/-- Everything `MemRead` can answer: it waits and moves nothing, or it delivers the next bytes of the stream, never
more than asked for (R62). -/
theorem memRead_cases (n : Nat) (s : State) :
    (∃ q, memRead n s = .waiting (s.setEnv { s.env with reads := q })) ∨
    ∃ k st q, k ≤ n ∧
      memRead n s = .answered (s.nextInput k, st) (s.received n (s.nextInput k) st q) := by
  unfold memRead
  split
  · exact .inr ⟨n, _, _, Nat.le_refl n, rfl⟩
  · exact .inr ⟨n, _, _, Nat.le_refl n, rfl⟩
  · exact .inl ⟨_, rfl⟩
  · exact .inl ⟨s.env.reads, rfl⟩
  · exact .inr ⟨_, _, _, Nat.sub_le _ _, rfl⟩

theorem memRead_quiet {n : Nat} {s : State} (h : s.env.reads = []) :
    memRead n s = .answered (s.nextInput n, if (s.nextInput n).length < n then .eof else .ok)
      (s.received n (s.nextInput n) (if (s.nextInput n).length < n then .eof else .ok) []) := by
  simp [memRead, soundRead, h]

/-- Everything `MemWrite` can answer: it waits and moves nothing, or the sink accepts a first part of what was offered
(R66). -/
theorem memWrite_cases (bytes : List Byte) (s : State) :
    (∃ q, memWrite bytes s = .waiting (s.setEnv { s.env with writes := q })) ∨
    ∃ k st q, k ≤ bytes.length ∧ memWrite bytes s = .answered (k, st) (s.sent bytes k st q) := by
  unfold memWrite
  split
  · exact .inr ⟨_, _, _, Nat.le_refl _, rfl⟩
  · exact .inl ⟨_, rfl⟩
  · exact .inl ⟨s.env.writes, rfl⟩
  · exact .inr ⟨_, _, _, Nat.sub_le _ _, rfl⟩

theorem memWrite_quiet {bytes : List Byte} {s : State} (h : s.env.writes = []) :
    memWrite bytes s = .answered (bytes.length, .ok) (s.sent bytes bytes.length .ok []) := by
  simp [memWrite, h]

/-- Everything `S.READ` does with an answer: store and count it, or abort with `IoReadError` (R160). -/
theorem finishRead_next {dst : BufId} {n : Nat} {bytes : List Byte} {st : RdStatus} {s t : State}
    (h : finishRead dst n bytes st s = .next t) :
    (st ≠ .err ∧ (bytes.length < n → st = .eof) ∧ t = ((s.setRdSt st).setBuf dst bytes).countIn bytes.length) ∨
    t = abort .ioReadError (s.setRdSt st) := by
  unfold finishRead at h
  split at h
  · exact .inr (raise_next h)
  · rename_i h1
    split at h
    · exact .inr (raise_next h)
    · rename_i h2
      cases h
      exact .inl ⟨h1, fun hl => not_not.1 fun hn => h2 ⟨hl, hn⟩, rfl⟩

/-- Everything `S.WRITE` does with an answer: go on, or abort with `IoWriteError` (R163). -/
theorem finishWrite_next {m k : Nat} {st : WrStatus} {s t : State} (h : finishWrite m k st s = .next t) :
    (st = .ok ∧ m ≤ k ∧ t = s.setWrSt st) ∨ t = abort .ioWriteError (s.setWrSt st) := by
  unfold finishWrite at h
  split at h
  · exact .inr (raise_next h)
  · rename_i h1
    cases h
    refine .inl ⟨?_, Nat.le_of_not_lt fun hk => h1 (.inr hk), rfl⟩
    cases st
    · rfl
    · exact absurd (.inl rfl) h1

/-- A command word is ignored while busy, and else starts a call (R41, R170). -/
theorem acceptCommand_next {w : Word} {s t : State} (h : acceptCommand w s = .next t) :
    (s.fsm = .streaming ∧ t = s) ∨
    (s.fsm ≠ .streaming ∧ t = { beginCall s with cmdl := w, label := .st1 }) := by
  unfold acceptCommand at h
  split at h
  · rename_i hb
    cases h
    exact .inl ⟨hb, rfl⟩
  · rename_i hb
    cases h
    exact .inr ⟨hb, rfl⟩

/-- A malformed command is ignored while busy, and else ends at once (R41, R170). -/
theorem rejectCommand_next {w : State} {t : State} (h : rejectCommand w = .next t) :
    (w.fsm = .streaming ∧ t = w) ∨
    (w.fsm ≠ .streaming ∧ t = abort .usageError { beginCall w with cmdl := 0 }) := by
  unfold rejectCommand at h
  split at h
  · rename_i hb
    cases h
    exact .inl ⟨hb, rfl⟩
  · rename_i hb
    exact .inr ⟨hb, raise_next h⟩

end Sys2Proof.Machine
end

