-- ==== Sys2Proof/Laws/PerInstr.lean ====
section
/-! SUPPORT. Statements made for every operation, one lemma per constructor: each operation's word matches its row of
the opcode table (R98, R111). -/

namespace Sys2Proof

/-- Masking the upper half of a number whose lower 16 bits are arbitrary. -/
theorem and_high (k m : Nat) {n : Nat} (h : n < 2 ^ 16) :
    (k * 2 ^ 16 + n) &&& (m * 2 ^ 16) = (k &&& m) * 2 ^ 16 := by
  apply Nat.eq_of_testBit_eq
  intro j
  rw [Nat.testBit_and, Nat.mul_comm k, Nat.mul_comm m, Nat.mul_comm (k &&& m), Nat.testBit_two_pow_mul_add _ h,
    Nat.testBit_two_pow_mul, Nat.testBit_two_pow_mul, Nat.testBit_and]
  by_cases hj : j < 16
  · simp [hj, Nat.not_le.2 hj]
  · simp [hj, Nat.not_lt.1 hj]

/-- A word of Format BN under a mask that leaves the count out (R91, R98). -/
theorem packBN_and_mask {opc d a n m p : Nat} (h : ((opc * 256 + d * 32 + a * 4) &&& m) * 2 ^ 16 = p) :
    packBN opc d a n &&& BitVec.ofNat 32 (m * 2 ^ 16) = BitVec.ofNat 32 p := by
  have hx : opc * 2 ^ 24 + d * 2 ^ 21 + a * 2 ^ 18 + n % 2 ^ 16 =
      (opc * 256 + d * 32 + a * 4) * 2 ^ 16 + n % 2 ^ 16 := by ring
  rw [packBN, hx, ← BitVec.ofNat_and, and_high _ _ (Nat.mod_lt n (Nat.two_pow_pos 16)), h]

/-- A word of Formats T and I under a mask that leaves the count out (R91, R98). -/
theorem packT_and_mask {opc d k n m p : Nat} (h : ((opc * 256 + d * 128 + k * 32) &&& m) * 2 ^ 16 = p) :
    packT opc d k n &&& BitVec.ofNat 32 (m * 2 ^ 16) = BitVec.ofNat 32 p := by
  have hx : opc * 2 ^ 24 + d * 2 ^ 23 + k * 2 ^ 21 + n % 2 ^ 16 =
      (opc * 256 + d * 128 + k * 32) * 2 ^ 16 + n % 2 ^ 16 := by ring
  rw [packT, hx, ← BitVec.ofNat_and, and_high _ _ (Nat.mod_lt n (Nat.two_pow_pos 16)), h]

/-- The operation's word matches the row of the opcode table that bears its mnemonic (R98). -/
def Laws.RowMatches.Statement (i : Instr) : Prop :=
  ∃ r ∈ opcodeTable, r.mnemonic = mnemonic i ∧ encode i &&& r.mask = r.pattern

theorem Laws.RowMatches.encrypt (k : KSel) (n : Nat) : Laws.RowMatches.Statement (.encrypt k n) :=
  ⟨⟨"ENCRYPT", 0x01000000, 0xFF9F0000⟩, by decide, rfl, by cases k <;> exact packT_and_mask (m := 0xFF9F) (by decide)⟩

theorem Laws.RowMatches.decrypt (k : KSel) (n : Nat) : Laws.RowMatches.Statement (.decrypt k n) :=
  ⟨⟨"DECRYPT", 0x01800000, 0xFF9F0000⟩, by decide, rfl, by cases k <;> exact packT_and_mask (m := 0xFF9F) (by decide)⟩

theorem Laws.RowMatches.eInit (d : Dir) (k : KSel) (n : Nat) : Laws.RowMatches.Statement (.eInit d k n) :=
  ⟨⟨"E.INIT", 0x10000000, 0xFF1F0000⟩, by decide, rfl, by cases d <;> cases k <;> exact packT_and_mask (m := 0xFF1F) (by decide)⟩

theorem Laws.RowMatches.eUpdate (d : BufId) (a : BufId) : Laws.RowMatches.Statement (.eUpdate d a) :=
  ⟨⟨"E.UPDATE", 0x11000000, 0xFF03FFFF⟩, by decide, rfl, by cases d <;> cases a <;> decide⟩

theorem Laws.RowMatches.eFinalizeEnc : Laws.RowMatches.Statement .eFinalizeEnc :=
  ⟨⟨"E.FINALIZE_ENC", 0x12000000, 0xFFFFFFFF⟩, by decide, rfl, by decide⟩

theorem Laws.RowMatches.eSetTag (a : BufId) : Laws.RowMatches.Statement (.eSetTag a) :=
  ⟨⟨"E.SET_TAG", 0x13000000, 0xFFE3FFFF⟩, by decide, rfl, by cases a <;> decide⟩

theorem Laws.RowMatches.eFinalizeDec : Laws.RowMatches.Statement .eFinalizeDec :=
  ⟨⟨"E.FINALIZE_DEC", 0x14000000, 0xFFFFFFFF⟩, by decide, rfl, by decide⟩

theorem Laws.RowMatches.eRelease : Laws.RowMatches.Statement .eRelease :=
  ⟨⟨"E.RELEASE", 0x15000000, 0xFFFFFFFF⟩, by decide, rfl, by decide⟩

theorem Laws.RowMatches.bEmpty (d : BufId) : Laws.RowMatches.Statement (.bEmpty d) :=
  ⟨⟨"B.EMPTY", 0x20000000, 0xFF1FFFFF⟩, by decide, rfl, by cases d <;> decide⟩

theorem Laws.RowMatches.bFromArray (d : BufId) : Laws.RowMatches.Statement (.bFromArray d) :=
  ⟨⟨"B.FROM_ARRAY", 0x21000000, 0xFF1FFFFF⟩, by decide, rfl, by cases d <;> decide⟩

theorem Laws.RowMatches.bResize (d : BufId) (n : Nat) : Laws.RowMatches.Statement (.bResize d n) :=
  ⟨⟨"B.RESIZE", 0x22000000, 0xFF1F0000⟩, by decide, rfl, by cases d <;> exact packBN_and_mask (m := 0xFF1F) (by decide)⟩

theorem Laws.RowMatches.bConcat (d : BufId) (a : BufId) (b : BufId) : Laws.RowMatches.Statement (.bConcat d a b) :=
  ⟨⟨"B.CONCAT", 0x23000000, 0xFF007FFF⟩, by decide, rfl, by cases d <;> cases a <;> cases b <;> decide⟩

theorem Laws.RowMatches.bHead (d : BufId) (a : BufId) (n : Nat) : Laws.RowMatches.Statement (.bHead d a n) :=
  ⟨⟨"B.HEAD", 0x24000000, 0xFF030000⟩, by decide, rfl, by cases d <;> cases a <;> exact packBN_and_mask (m := 0xFF03) (by decide)⟩

theorem Laws.RowMatches.bTail (d : BufId) (a : BufId) (n : Nat) : Laws.RowMatches.Statement (.bTail d a n) :=
  ⟨⟨"B.TAIL", 0x25000000, 0xFF030000⟩, by decide, rfl, by cases d <;> cases a <;> exact packBN_and_mask (m := 0xFF03) (by decide)⟩

theorem Laws.RowMatches.bPopFront (d : BufId) (n : Nat) : Laws.RowMatches.Statement (.bPopFront d n) :=
  ⟨⟨"B.POP_FRONT", 0x26000000, 0xFF1F0000⟩, by decide, rfl, by cases d <;> exact packBN_and_mask (m := 0xFF1F) (by decide)⟩

theorem Laws.RowMatches.bPopBack (d : BufId) (n : Nat) : Laws.RowMatches.Statement (.bPopBack d n) :=
  ⟨⟨"B.POP_BACK", 0x27000000, 0xFF1F0000⟩, by decide, rfl, by cases d <;> exact packBN_and_mask (m := 0xFF1F) (by decide)⟩

theorem Laws.RowMatches.bCopy (d : BufId) (a : BufId) : Laws.RowMatches.Statement (.bCopy d a) :=
  ⟨⟨"B.COPY", 0x28000000, 0xFF03FFFF⟩, by decide, rfl, by cases d <;> cases a <;> decide⟩

theorem Laws.RowMatches.sRead (d : BufId) (n : Nat) : Laws.RowMatches.Statement (.sRead d n) :=
  ⟨⟨"S.READ", 0x30000000, 0xFF1F0000⟩, by decide, rfl, by cases d <;> exact packBN_and_mask (m := 0xFF1F) (by decide)⟩

theorem Laws.RowMatches.sWrite (a : BufId) : Laws.RowMatches.Statement (.sWrite a) :=
  ⟨⟨"S.WRITE", 0x31000000, 0xFFE3FFFF⟩, by decide, rfl, by cases a <;> decide⟩

theorem Laws.RowMatches.sDiag (kd : DiagKind) : Laws.RowMatches.Statement (.sDiag kd) :=
  ⟨⟨"S.DIAG", 0x32000000, 0xFFFFFFFC⟩, by decide, rfl, by cases kd <;> decide⟩

end Sys2Proof
end

