-- ==== Sys2Proof/Tests/Slice0.lean ====
section
/-! SUPPORT. Tests of single operations, their expected results taken from spec/95_test_vectors.md and the rules' own
examples; and, for each statement with hypotheses, a state and operands that meet all of them together. -/

namespace Sys2Proof.Tests

set_option Elab.async false

open Sys2Proof Sys2Proof.Machine Sys2Proof.Safety

/-! ### Well-formedness: each count field refuses 65536 -/

theorem smoke_encrypt : ¬ WellFormed (.encrypt .k128 65536) := by unfold WellFormed; decide
theorem smoke_decrypt : ¬ WellFormed (.decrypt .k128 65536) := by unfold WellFormed; decide
theorem smoke_eInit : ¬ WellFormed (.eInit .enc .k128 65536) := by unfold WellFormed; decide
theorem smoke_bResize : ¬ WellFormed (.bResize .in_ 65536) := by unfold WellFormed; decide
theorem smoke_bHead : ¬ WellFormed (.bHead .ct .x 65536) := by unfold WellFormed; decide
theorem smoke_bTail : ¬ WellFormed (.bTail .ct .x 65536) := by unfold WellFormed; decide
theorem smoke_bPopFront : ¬ WellFormed (.bPopFront .x 65536) := by unfold WellFormed; decide
theorem smoke_bPopBack : ¬ WellFormed (.bPopBack .x 65536) := by unfold WellFormed; decide
theorem smoke_sRead : ¬ WellFormed (.sRead .in_ 65536) := by unfold WellFormed; decide

/-! ### Decoding: the words of table 2.1, bit 31 first where a word is written out in binary -/

theorem test_decode_encrypt : decodeTableWord 32 0b00000001_0_10_00000_0000000000001100 = some (.encrypt .k256 12) := by
  decide
theorem test_decode_decrypt : decodeTableWord 32 0b00000001_1_01_00000_1111111111111111 =
    some (.decrypt .k192 65535) := by decide
theorem test_decode_eInit : decodeTableWord 32 0b00010000_1_10_00000_0000000000001100 = some (.eInit .dec .k256 12) := by
  decide
theorem test_decode_eUpdate : decodeTableWord 32 0b00010001_101_100_000_000000000000000 = some (.eUpdate .out .ct) := by
  decide
theorem test_decode_eFinalizeEnc : decodeTableWord 32 0x12000000 = some .eFinalizeEnc := by decide
theorem test_decode_eSetTag : decodeTableWord 32 0x13180000 = some (.eSetTag .tag) := by decide
theorem test_decode_eFinalizeDec : decodeTableWord 32 0x14000000 = some .eFinalizeDec := by decide
theorem test_decode_eRelease : decodeTableWord 32 0x15000000 = some .eRelease := by decide
theorem test_decode_bEmpty : decodeTableWord 32 0x20200000 = some (.bEmpty .lb) := by decide
theorem test_decode_bFromArray : decodeTableWord 32 0x21C00000 = some (.bFromArray .tag) := by decide
theorem test_decode_bResize : decodeTableWord 32 0x22000064 = some (.bResize .in_ 100) := by decide
theorem test_decode_bConcat : decodeTableWord 32 0b00100011_011_000_010_000000000000000 = some (.bConcat .x .in_ .la) := by
  decide
theorem test_decode_bHead : decodeTableWord 32 0b00100100_100_011_00_0000000000010001 = some (.bHead .ct .x 17) := by
  decide
theorem test_decode_bTail : decodeTableWord 32 0x25CC0010 = some (.bTail .tag .x 16) := by decide
theorem test_decode_bPopFront : decodeTableWord 32 0x26600010 = some (.bPopFront .x 16) := by decide
theorem test_decode_bPopBack : decodeTableWord 32 0x27600010 = some (.bPopBack .x 16) := by decide
theorem test_decode_bCopy : decodeTableWord 32 0x28280000 = some (.bCopy .lb .la) := by decide
theorem test_decode_sRead : decodeTableWord 32 0b00110000_010_00000_0000000000010000 = some (.sRead .la 16) := by decide
theorem test_decode_sWrite : decodeTableWord 32 0b00110001_000_101_000000000000000000 = some (.sWrite .out) := by decide
theorem test_decode_sDiag : decodeTableWord 32 0x32000001 = some (.sDiag .counts) := by decide
theorem test_decode_illegal :
    decode 0x00000000 = .error .unassignedOpcode ∧ decode 0x0181000C = .error .reservedBits ∧
    decode 0x12000001 = .error .reservedBits ∧ decode 0x23E40000 = .error .reservedBuffer ∧
    decode 0x32000003 = .error .reservedKind := by decide

/-! ### The cipher, against files 46 and 47 and table 2.2 -/

/-- `P(n)`: the bytes 00 01 02 .. -/
def ramp (n : Nat) : List Byte := (List.range n).map (BitVec.ofNat 8)

theorem test_aes_zero_key : aes (keyExpansion (zeroBytes 16)) 10 0 = 0x66e94bd4ef8a2c3b884cfa59ca342b2e := by
  decide +kernel
theorem test_mulH : mulH 0x0388dace60b6a392f328c2b971b2fe78 0x66e94bd4ef8a2c3b884cfa59ca342b2e =
    0x5e2ec746917062882c85b0685353deb7 := by decide +kernel

/-- V1's key and IV (Part 1). -/
def v1Key : List Byte := beBytes 32 0x4c8ebfe1444ec1b2d503c6986659af2c94fafe945f72c1e8486a5acfedb8a0f8
def v1Iv : List Byte := beBytes 12 0x473360e0ad24889959858995
/-- V1's context for decryption. -/
def v1Ctx : Ctx := initCtx Ctx.zero .dec v1Key v1Iv

/-! ### States for the tests -/

/-- After reset, with `B = 32`, as tables 2.3 to 2.8 take it. -/
def unit32 : State := { State.reset with params := { Params.standard with chunk := 32 } }
/-- A buffer register given a value. -/
def holding (r : BufId) (v : List Byte) (s : State) : State := s.setBuf r v
/-- A context that counts as bound in a direction. -/
def bound (d : Dir) (s : State) : State := s.setCtx { Ctx.zero with valid := true, dir := d }
/-- The operand memory that holds the bytes from address 0 on. -/
def memOf (s : List Byte) : Memory := Memory.writeBytes 65535 [] 0 s
/-- V1's operands, in the unit of the programs. -/
def v1Unit : State := { State.reset with key := memOf v1Key, ivmem := memOf v1Iv }
/-- The environment changed. -/
def within (f : Env → Env) (s : State) : State := s.setEnv (f s.env)
/-- The next state, where there is one. -/
def nextOf (r : Result) : Option State :=
  match r with
  | .next t => some t
  | .fault _ => none
  | .refused _ => none
/-- One field of the next state. -/
def after {α : Type} (i : Instr) (s : State) (f : State → α) : Option α := (nextOf (exec i s)).map f

/-! ### Operations -/

theorem test_encrypt_starts : after (.encrypt .k256 12) State.reset (fun t => (t.cmdl, t.status, t.result)) =
    some (0x0140000C, 0x05, 0x0F) := by decide
theorem test_encrypt_busy : after (.encrypt .k256 12) { State.reset with fsm := .streaming } (·.cmdl) = some 0 := by
  decide
theorem test_decrypt_starts : after (.decrypt .k256 0) State.reset (fun t => (t.cmdl, t.label, t.fsm)) =
    some (0x01C00000, .st1, .streaming) := by decide
theorem test_eInit_v1 : after (.eInit .dec .k256 12) v1Unit (fun t => (t.ctx.h, t.ctx.j0, t.ctx.nr, t.ctx.dir)) =
    some (0xa219af8b7b4988ba4f122a4cc42b595a, 0x473360e0ad2488995985899500000001, 14, .dec) := by decide +kernel
theorem test_eInit_no_iv : after (.eInit .enc .k128 0) State.reset (fun t => (t.result, t.fsm, t.ctx.valid)) =
    some (0x04, .done, false) := by decide
theorem test_eUpdate_v1 :
    after (.eUpdate .out .ct) ((holding .ct (beBytes 16 0xd2c78110ac7e8f107c0df0570bd7c90c) unit32).setCtx v1Ctx)
      (fun t => (bytesBlock (t.buf .out), t.ctx.n, t.ctx.y, t.ctx.part)) =
    some (0x7789b41cb3ee548814ca0b388c10b343, 16, 0x98f8ce38f4d7f7cfd49649a300b17896, 0) := by decide +kernel
theorem test_eUpdate_finalized : after (.eUpdate .out .ct) (unit32.setCtx { v1Ctx with fin := true }) (·.result) =
    some 0x0A := by decide +kernel
/-- R120: no update follows `E.SET_TAG`. -/
theorem test_eUpdate_after_setTag : after (.eUpdate .out .ct) (unit32.setCtx { v1Ctx with xset := true }) (·.result) =
    some 0x0A := by decide +kernel
theorem test_eFinalizeEnc_empty : after .eFinalizeEnc
    (unit32.setCtx (initCtx Ctx.zero .enc (zeroBytes 16) (zeroBytes 12))) (fun t => (t.etag, t.ctx.fin)) =
    some (0x58e2fccefa7e3061367f1d57a4e7455a, true) := by decide +kernel
theorem test_eSetTag : after (.eSetTag .tag)
    (holding .tag (beBytes 16 0xc26a379b6d98ef2852ead8ce83a833a7) (bound .dec unit32))
      (fun t => (t.ctx.xtag, t.ctx.xset)) = some (0xc26a379b6d98ef2852ead8ce83a833a7, true) := by decide +kernel
theorem test_eSetTag_short : after (.eSetTag .tag) (holding .tag (ramp 15) (bound .dec unit32)) (·.result) =
    some 0x0A := by decide +kernel

/-- V1's context after its ciphertext, with an expected tag. -/
def v1Fed (tag : Block) : Ctx :=
  { (update v1Ctx (beBytes 16 0xd2c78110ac7e8f107c0df0570bd7c90c)).2 with xtag := tag, xset := true }

theorem test_eFinalizeDec_match :
    after .eFinalizeDec (unit32.setCtx (v1Fed 0xc26a379b6d98ef2852ead8ce83a833a7)) (·.auth) = some true := by
  decide +kernel
theorem test_eFinalizeDec_last_bit :
    after .eFinalizeDec (unit32.setCtx (v1Fed 0xc26a379b6d98ef2852ead8ce83a833a6)) (fun t => (t.auth, t.fsm)) =
      some (false, .idle) := by decide +kernel
theorem test_eRelease : after .eRelease { bound .dec unit32 with etag := 5, auth := true }
    (fun t => (decide (t.ctx = Ctx.zero), t.etag, t.auth)) = some (true, 0, true) := by decide
theorem test_bEmpty : after (.bEmpty .lb) (holding .lb (ramp 16) unit32) (·.buf .lb) = some [] := by decide
theorem test_bFromArray : after (.bFromArray .tag) (unit32.setEtag 0xc26a379b6d98ef2852ead8ce83a833a7) (·.buf .tag) =
    some (beBytes 16 0xc26a379b6d98ef2852ead8ce83a833a7) := by decide +kernel
theorem test_bFromArray_in : after (.bFromArray .in_) unit32 (·.result) = some 0x0A := by decide
theorem test_bResize_grow : after (.bResize .in_ 6) (holding .in_ (ramp 4) unit32)
    (fun t => ((t.buf .in_).length, (t.buf .in_).take 4)) = some (6, [0, 1, 2, 3]) := by decide +kernel
theorem test_bResize_over : after (.bResize .in_ 33) unit32 (·.result) = some 0x0A := by decide
theorem test_bConcat : after (.bConcat .x .lb .in_) (holding .lb [0xaa, 0xbb] (holding .in_ [0xcc] unit32))
    (·.buf .x) = some [0xaa, 0xbb, 0xcc] := by decide
theorem test_bConcat_over : after (.bConcat .x .in_ .in_) (holding .in_ (ramp 32) unit32) (·.result) = some 0x0A := by
  decide +kernel
theorem test_bHead : after (.bHead .ct .x 17) (holding .x (ramp 33) unit32) (·.buf .ct) = some (ramp 17) := by
  decide +kernel
theorem test_bHead_over : after (.bHead .ct .x 11) (holding .x (ramp 10) unit32) (·.result) = some 0x0A := by
  decide +kernel
theorem test_bTail : after (.bTail .tag .x 16) (holding .x (ramp 33) unit32) (·.buf .tag) =
    some ((ramp 33).drop 17) := by decide +kernel
theorem test_bTail_over : after (.bTail .tag .x 17) (holding .x (ramp 40) unit32) (·.result) = some 0x0A := by
  decide +kernel
theorem test_bPopFront : after (.bPopFront .x 16) (holding .x (ramp 20) unit32) (·.buf .x) =
    some [0x10, 0x11, 0x12, 0x13] := by decide +kernel
theorem test_bPopBack : after (.bPopBack .x 16) (holding .x (ramp 20) unit32) (·.buf .x) = some [0, 1, 2, 3] := by
  decide +kernel
theorem test_bPopBack_over : after (.bPopBack .x 21) (holding .x (ramp 20) unit32) (·.result) = some 0x0A := by
  decide +kernel
theorem test_bCopy : after (.bCopy .lb .la) (holding .la (ramp 16) unit32) (fun t => (t.buf .lb, t.buf .la)) =
    some (ramp 16, ramp 16) := by decide +kernel
theorem test_bCopy_over : after (.bCopy .lb .in_) (holding .in_ (ramp 17) unit32) (·.result) = some 0x0A := by
  decide +kernel
theorem test_sRead_partial :
    after (.sRead .in_ 32) (within (fun e => { e with sIn := ⟨ramp 9, none⟩, pos := 4 }) unit32)
      (fun t => (t.buf .in_, t.rdSt, t.cntIn, t.env.pos)) = some ([4, 5, 6, 7, 8], .eof, 5, 9) := by decide +kernel
theorem test_sRead_short_ok :
    after (.sRead .in_ 32) (within (fun e => { e with sIn := ⟨ramp 40, none⟩, reads := [.answer 27 .ok] }) unit32)
      (fun t => (t.result, t.cntIn, t.rdSt)) = some (0x05, 0, .ok) := by decide +kernel
theorem test_sWrite : after (.sWrite .out) (holding .out (ramp 16) unit32) (fun t => (t.env.sink, t.wrSt)) =
    some (ramp 16, .ok) := by decide +kernel
theorem test_sWrite_short :
    after (.sWrite .out) (within (fun e => { e with writes := [.answer 9 .ok] }) (holding .out (ramp 16) unit32))
      (fun t => (t.result, t.env.sink)) = some (0x06, ramp 7) := by decide +kernel
theorem test_sDiag_ivsize : after (.sDiag .ivsize) { unit32 with cmdl := 0x0100000C } (·.env.history) =
    some [.diag [0x00, 0x00, 0x0c]] := by decide +kernel
theorem test_sDiag_counts : after (.sDiag .counts) { unit32 with cntIn := 32, cntOut := 16 } (·.env.history) =
    some [.diag [1, 0, 0, 0, 0, 0, 0, 0, 0x20, 0, 0, 0, 0, 0, 0, 0, 0x10]] := by decide +kernel

/-! ### The endless stream, fetch, the host's loader -/

theorem test_endless_slice : ((InStream.mk [7] (some 0)).slice 0 32).length = 32 ∧
    ((InStream.mk [7] (some 0)).slice 0 32).take 1 = [7] := by decide +kernel

theorem test_step_runs_placed_word : (nextOf (step (State.reset.withFetchWord 32 0x0140000C))).map (·.cmdl) =
    some 0x0140000C := by decide
theorem test_step_runs_placed_micro : (nextOf (step ((holding .lb [1] unit32).withFetchWord 32 0x20200000))).map
    (·.buf .lb) = some [] := by decide
theorem test_loader_splits : parseIvAndKey ("AbCd".toList ++ List.replicate 48 'F') 48 =
    .ok ([0xab, 0xcd], List.replicate 24 0xff) := by decide +kernel
theorem test_loader_iv_first : parseIvAndKey ("zz".toList ++ List.replicate 31 '0' ++ ['x']) 32 =
    .error (.badHexDigit 'z' 'z' .iv) := by decide +kernel

/-! ### Witnesses: the hypotheses of each statement, met together, at a boundary of each range -/

/-- A unit with a first action of a driver step. -/
def issuing (p : List Action) (s : State) : State := { s with fsm := .streaming, pending := p }
/-- A unit with a host's script. -/
def hosted (h : List HostEvent) (s : State) : State := s.setHost h
/-- The unit of a busy call at a label, between steps. -/
def atLabel (l : Label) (s : State) : State := { s with fsm := .streaming, label := l }

theorem no_reset_in_empty : ∀ m h, ([] : List HostEvent) ≠ .reset m :: h := fun _ _ => nofun

theorem witness_DecodeAfterEncode : WellFormed (.bHead .ct .x 65535) ∧ WellFormed (.encrypt .krsv 0) ∧
    WellFormed (.bConcat .tag .tag .tag) := by unfold WellFormed; decide
theorem witness_EncodeAfterDecode : decode 0x248CFFFF = .ok (.bHead .ct .x 65535) ∧
    decode 0x32000000 = .ok (.sDiag .ivsize) := by decide
theorem witness_LegalWordMatchesItsRow : decode 0x01800000 = .ok (.decrypt .k128 0) := by decide
theorem witness_MatchingWordDecodesOrIsReserved :
    (⟨"B.CONCAT", 0x23000000, 0xFF007FFF⟩ : OpRow) ∈ opcodeTable ∧
      (0x23E40000 : Word) &&& 0xFF007FFF = 0x23000000 ∧ NamesReservedBuffer "B.CONCAT" 0x23E40000 ∧
      (0x23640000 : Word) &&& 0xFF007FFF = 0x23000000 ∧ ¬ NamesReservedBuffer "B.CONCAT" 0x23640000 ∧
      ¬ NamesReservedKind "B.CONCAT" 0x23640000 ∧
    (⟨"S.DIAG", 0x32000000, 0xFFFFFFFC⟩ : OpRow) ∈ opcodeTable ∧
      (0x32000003 : Word) &&& 0xFFFFFFFC = 0x32000000 ∧ NamesReservedKind "S.DIAG" 0x32000003 ∧
    (⟨"E.INIT", 0x10000000, 0xFF1F0000⟩ : OpRow) ∈ opcodeTable ∧
      (0x10E00001 : Word) &&& 0xFF1F0000 = 0x10000000 ∧ ¬ NamesReservedBuffer "E.INIT" 0x10E00001 := by decide
theorem witness_StepRunsIssuedOperation :
    (issuing [.op 0x20200000, .goto .de4] unit32).pending = .op 0x20200000 :: [.goto .de4] ∧
    (∀ m h, (issuing [.op 0x20200000, .goto .de4] unit32).env.host ≠ .reset m :: h) ∧
    decode 0x20200000 = .ok (.bEmpty .lb) ∧ issuer (.bEmpty .lb) = .driver :=
  ⟨rfl, no_reset_in_empty, by decide, rfl⟩
theorem witness_StepRunsHostCommand :
    (hosted [.writeCmd 0x0140000C] unit32).pending = [] ∧
    (hosted [.writeCmd 0x0140000C] unit32).env.host = .writeCmd 0x0140000C :: [] ∧
    decode 0x0140000C = .ok (.encrypt .k256 12) ∧ issuer (.encrypt .k256 12) = .host := by decide
theorem witness_MalformedCommandIsUsageError :
    (hosted [.writeCmd 0x30001000] unit32).pending = [] ∧
    (hosted [.writeCmd 0x30001000] unit32).env.host = .writeCmd 0x30001000 :: [] ∧
    (hosted [.writeCmd 0x30001000] unit32).fsm ≠ .streaming ∧
    ∀ i, decode 0x30001000 = .ok i → issuer i = .driver :=
  ⟨by decide, by decide, by decide, fun i h => by
    have hd : decode 0x30001000 = .ok (.sRead .in_ 4096) := by decide
    rw [hd] at h
    cases h
    rfl⟩
theorem witness_MalformedCommandIsUsageError_illegal : ∀ i, decode 0xFFFFFFFF = .ok i → issuer i = .driver :=
  fun i h => by
    have hd : decode 0xFFFFFFFF = .error .unassignedOpcode := by decide
    rw [hd] at h
    cases h
theorem witness_IllegalIssuedWordViolates :
    (issuing [.op 0x23E40000] unit32).pending = .op 0x23E40000 :: [] ∧
    (∀ m h, (issuing [.op 0x23E40000] unit32).env.host ≠ .reset m :: h) ∧
    ∀ i, decode 0x23E40000 = .ok i → issuer i = .host :=
  ⟨rfl, no_reset_in_empty, fun i h => by
    have hd : decode 0x23E40000 = .error .reservedBuffer := by decide
    rw [hd] at h
    cases h⟩
theorem witness_BusyWritesIgnored :
    (hosted [.writeKey 31 [1, 2]] (atLabel .en1 unit32)).pending = [] ∧
    (hosted [.writeKey 31 [1, 2]] (atLabel .en1 unit32)).env.host = .writeKey 31 [1, 2] :: [] ∧
    (hosted [.writeKey 31 [1, 2]] (atLabel .en1 unit32)).fsm = .streaming ∧
    (hosted [.writeOther 7 1] unit32).env.host = .writeOther 7 1 :: [] ∧
    (hosted [.writeCmd 0x0140000C] (atLabel .en1 unit32)).env.host = .writeCmd 0x0140000C :: [] ∧
    (hosted [.writeIv 0 [1]] (atLabel .en1 unit32)).env.host = .writeIv 0 [1] :: [] := by decide
theorem witness_HostReadAnswers :
    (hosted [.readReg 1] (atLabel .en1 unit32)).pending = [] ∧
    (hosted [.readReg 1] (atLabel .en1 unit32)).env.host = .readReg 1 :: [] := by decide
theorem witness_OperandWritesStore :
    (hosted [.writeKey 31 [1, 2]] unit32).pending = [] ∧ (hosted [.writeKey 31 [1, 2]] unit32).fsm ≠ .streaming ∧
    (hosted [.writeKey 31 [1, 2]] unit32).env.host = .writeKey 31 [1, 2] :: [] ∧ Memory.wf unit32.key ∧
    (hosted [.writeIv 65534 [1, 2]] unit32).env.host = .writeIv 65534 [1, 2] :: [] ∧ Memory.wf unit32.ivmem := by
  decide +kernel
theorem test_key_write_ends_at_32 :
    (nextOf (step (hosted [.writeKey 31 [1, 2]] unit32))).map (fun t => (t.key, t.fsm)) = some ([(31, 1)], .idle) := by
  decide
theorem witness_LoaderOutcomes :
    (List.replicate 31 '0').length < 32 ∧
    (32 ≤ (List.replicate 33 '0').length ∧ ((List.replicate 33 '0').length - 32) % 2 = 1) ∧
    parseIvAndKey (List.replicate 34 '0') 32 = .ok ([0], List.replicate 16 0) ∧
    (32 ≤ (List.replicate 32 'f').length ∧ ((List.replicate 32 'f').length - 32) % 2 = 0 ∧
      ∀ c ∈ List.replicate 32 'f', (hexDigit c).isSome = true) ∧
    (32 ≤ (List.replicate 32 'g').length ∧ ((List.replicate 32 'g').length - 32) % 2 = 0 ∧
      2 * 0 + 1 < (List.replicate 32 'g').length ∧ 'g' = (List.replicate 32 'g').getD (2 * 0) ' ' ∧
      'g' = (List.replicate 32 'g').getD (2 * 0 + 1) ' ' ∧
      (∀ c ∈ (List.replicate 32 'g').take (2 * 0), (hexDigit c).isSome = true) ∧ hexDigit 'g' = none) :=
  ⟨by decide, by decide, by decide +kernel,
    ⟨by decide, by decide, fun c hc => by
      rw [List.eq_of_mem_replicate hc]
      decide⟩,
    by decide, by decide, by decide, by decide, by decide, by simp, by decide⟩
theorem witness_LoadKeyStoresOperands :
    (hosted [.loadKey (List.replicate 34 '1') .k128] unit32).pending = [] ∧ unit32.fsm ≠ .streaming ∧
    Memory.wf unit32.key ∧ Memory.wf unit32.ivmem ∧
    (hosted [.loadKey (List.replicate 34 '1') .k128] unit32).env.host =
      .loadKey (List.replicate 34 '1') .k128 :: [] ∧
    parseIvAndKey (List.replicate 34 '1') (keyDigits .k128) = .ok ([0x11], List.replicate 16 0x11) ∧
    parseIvAndKey [] (keyDigits .k128) = .error .keyTooShort := by decide +kernel
theorem test_loader_failure_is_reported :
    (nextOf (step (hosted [.loadKey [] .k128] unit32))).map (fun t => (t.env.hostSaw, t.key)) =
      some ([.loadFailed .keyTooShort .usage], []) := by decide
theorem witness_ResetInputResets :
    (hosted [.reset 3] (issuing [.op 0x31140000] (holding .out (ramp 16) unit32))).env.host = .reset 3 :: [] := by
  decide
theorem unit32_structInv : StructInv unit32 :=
  ⟨by decide, by decide, by decide, ⟨Nat.two_pow_pos _, Nat.two_pow_pos _⟩, by decide, by decide⟩
theorem idle_driverInv : ∀ h : List HostEvent, DriverInv (hosted h unit32) := fun _ =>
  ⟨unit32_structInv, fun _ => ⟨rfl, rfl, rfl⟩, ⟨fun _ => rfl, fun hd => nomatch hd⟩, fun hs => nomatch hs⟩
theorem witness_StepKeepsStructInv :
    StructInv (hosted [.writeCmd 0x0100000C] unit32) ∧
    (nextOf (step (hosted [.writeCmd 0x0100000C] unit32))).isSome = true := ⟨unit32_structInv, by decide⟩
theorem witness_StepKeepsDriverInv :
    DriverInv (hosted [.writeCmd 0x0100000C] unit32) ∧
    (nextOf (step (hosted [.writeCmd 0x0100000C] unit32))).isSome = true := ⟨idle_driverInv _, by decide⟩
theorem witness_StepKeepsDriverInv_busy :
    DriverInv { atLabel .en5 (bound .enc unit32) with cmdl := 0x0100000C } :=
  ⟨⟨by decide, by decide, by decide, ⟨Nat.two_pow_pos _, Nat.two_pow_pos _⟩, by decide, fun h => absurd rfl h⟩,
    fun h => absurd rfl h, ⟨fun _ => rfl, fun hd => nomatch hd⟩, fun _ =>
    ⟨List.nil_suffix, fun d hd => by cases hd; decide, by
      show Bound _ .enc
      decide⟩⟩
theorem witness_RunsNeverViolateAndAlwaysScrub :
    DriverInv (hosted [.writeCmd 0x0000000C] unit32) ∧
    (nextOf (Sys2Proof.core.run 2 (hosted [.writeCmd 0x0000000C] unit32))).map (·.result) = some 0x02 :=
  ⟨idle_driverInv _, by decide⟩
theorem witness_CallsAreIndependent :
    issuer (.encrypt .k128 12) = .host ∧ DriverInv unit32 ∧
    DriverInv { unit32 with fsm := .done, result := 0x30, auth := true, cntIn := 20, last := true } :=
  ⟨rfl, idle_driverInv [], ⟨by decide, by decide, by decide,
    ⟨Nat.lt_of_lt_of_le (by decide) (Nat.pow_le_pow_right (by decide) (by decide : 5 ≤ 64)), Nat.two_pow_pos _⟩,
    by decide, by decide⟩, fun _ => ⟨rfl, rfl, rfl⟩,
    ⟨fun h => absurd rfl h, fun _ => by decide⟩, fun h => nomatch h⟩
theorem witness_CommandsStartACall :
    (Instr.encrypt .k256 65535 = .encrypt .k256 65535 ∧ Fits16 65535) ∧ (atLabel .en1 unit32).fsm = .streaming ∧
    unit32.fsm ≠ .streaming := by decide

/-- What the statements on `E.INIT` with supported lengths suppose. -/
abbrev Supported (k : KSel) (z : KeySize) (n : Nat) (s : State) : Prop :=
  s.ctx.valid = false ∧ kselSize k = some z ∧ z ∈ s.params.keySizes ∧ 1 ≤ n ∧ n ≤ s.params.ivMax

theorem witness_EInitBindsEngine : Supported .k192 .k192 1 unit32 ∧ Supported .k256 .k256 65535 unit32 ∧
    unit32.env.engine = [] := by decide
theorem witness_EInitRejectsUnsupported : unit32.ctx.valid = false ∧
    (∀ z, kselSize .krsv = some z → z ∉ unit32.params.keySizes) ∧ (0 : Nat) = 0 ∧
    unit32.params.ivMax < 65536 := ⟨rfl, nofun, rfl, by decide⟩
theorem witness_EUpdateTransforms :
    (holding .in_ (ramp 32) (bound .enc unit32)).ctx.valid = true ∧
    (holding .in_ (ramp 32) (bound .enc unit32)).ctx.xset = false ∧
    (holding .in_ (ramp 32) (bound .enc unit32)).ctx.fin = false ∧
    ((holding .in_ (ramp 32) (bound .enc unit32)).buf .in_).length ≤ cap unit32.params .out ∧ BufId.out ≠ .in_ ∧
    (holding .in_ (ramp 32) (bound .enc unit32)).ctx.n +
      ((holding .in_ (ramp 32) (bound .enc unit32)).buf .in_).length ≤ Config.msgMax ∧
    (holding .in_ (ramp 32) (bound .enc unit32)).env.engine = [] := by decide +kernel
/-- A bound context that has taken all but one byte of `MSG_MAX`. -/
def nearlyFull : State :=
  holding .ct [1, 2] (unit32.setCtx { Ctx.zero with valid := true, n := Config.msgMax - 1 })
theorem witness_EUpdateRefusesPastMsgMax :
    nearlyFull.ctx.valid = true ∧ nearlyFull.ctx.xset = false ∧ nearlyFull.ctx.fin = false ∧
    (nearlyFull.buf .ct).length ≤ cap nearlyFull.params .out ∧
    BufId.out ≠ .ct ∧ Config.msgMax < nearlyFull.ctx.n + (nearlyFull.buf .ct).length := by decide +kernel
theorem witness_EFinalizeEncMakesTag :
    (bound .enc unit32).ctx.valid = true ∧ (bound .enc unit32).ctx.dir = .enc ∧ (bound .enc unit32).ctx.fin = false ∧
    (bound .enc unit32).env.engine = [] := by decide
theorem witness_ESetTagSetsExpectedTag :
    (holding .x (ramp 16) (bound .dec unit32)).ctx.valid = true ∧
    (holding .x (ramp 16) (bound .dec unit32)).ctx.dir = .dec ∧
    (holding .x (ramp 16) (bound .dec unit32)).ctx.fin = false ∧
    ((holding .x (ramp 16) (bound .dec unit32)).buf .x).length = 16 := by decide +kernel
theorem witness_EFinalizeDecVerifies :
    (unit32.setCtx { Ctx.zero with valid := true, dir := .dec, xset := true }).ctx.valid = true ∧
    (unit32.setCtx { Ctx.zero with valid := true, dir := .dec, xset := true }).ctx.dir = .dec ∧
    (unit32.setCtx { Ctx.zero with valid := true, dir := .dec, xset := true }).ctx.xset = true ∧
    (unit32.setCtx { Ctx.zero with valid := true, dir := .dec, xset := true }).ctx.fin = false ∧
    (unit32.setCtx { Ctx.zero with valid := true, dir := .dec, xset := true }).env.engine = [] := by decide
theorem witness_EngineOrderViolations :
    (bound .enc unit32).ctx.valid = true ∧ unit32.ctx.valid = false ∧
    (unit32.setCtx { Ctx.zero with fin := true }).ctx.fin = true ∧
    cap unit32.params .lb < ((holding .in_ (ramp 17) unit32).buf .in_).length ∧ BufId.out = .out ∧
    (bound .dec unit32).ctx.dir = .dec ∧ (bound .enc unit32).ctx.dir = .enc ∧ (unit32.buf .tag).length ≠ 16 ∧
    unit32.ctx.xset = false ∧ (unit32.setCtx { Ctx.zero with xset := true }).ctx.xset = true := by decide +kernel
/-- An engine with one answer to give. -/
def answering (a : EngineAnswer) (s : State) : State := within (fun e => { e with engine := [a] }) s
theorem witness_EngineFaultAborts :
    (answering .failed unit32).env.engine = .failed :: [] ∧ Supported .k128 .k128 12 (answering .failed unit32) ∧
    updateContract .out .in_ (answering .failed (bound .enc unit32)) ∧
    (answering .failed (bound .enc unit32)).ctx.n +
      ((answering .failed (bound .enc unit32)).buf .in_).length ≤ Config.msgMax ∧
    finalizeEncContract (answering .failed (bound .enc unit32)) ∧
    finalizeDecContract
      (answering .failed (unit32.setCtx { Ctx.zero with valid := true, dir := .dec, xset := true })) := by
  decide +kernel
theorem witness_WrongSizeAborts :
    (answering (.misSized 1) (bound .enc unit32)).env.engine = .misSized 1 :: [] ∧
    updateContract .out .in_ (answering (.misSized 1) (bound .enc unit32)) ∧
    (answering (.misSized 1) (bound .enc unit32)).ctx.n +
      ((answering (.misSized 1) (bound .enc unit32)).buf .in_).length ≤ Config.msgMax ∧
    1 ≠ ((answering (.misSized 1) (bound .enc unit32)).buf .in_).length ∧
    finalizeEncContract (answering (.misSized 1) (bound .enc unit32)) := by decide +kernel
theorem witness_BFromArrayCopiesEtag : cap unit32.params .tag = 16 ∧ cap unit32.params .in_ ≠ 16 ∧
    { Params.standard with chunk := 16 }.Ok ∧ cap { Params.standard with chunk := 16 } .in_ = 16 ∧
    cap { Params.standard with chunk := 16 } .x ≠ 16 := by decide
theorem witness_BResizeSetsLength : 48 ≤ cap unit32.params .x ∧ cap unit32.params .x < 49 := by decide
theorem witness_BConcatJoins :
    ((holding .la (ramp 16) (holding .in_ (ramp 32) unit32)).buf .in_).length +
      ((holding .la (ramp 16) (holding .in_ (ramp 32) unit32)).buf .la).length ≤ cap unit32.params .x ∧
    cap unit32.params .x < ((holding .in_ (ramp 32) unit32).buf .in_).length +
      ((holding .in_ (ramp 32) unit32).buf .in_).length ∧
    BufsFit unit32.params (holding .la (ramp 16) (holding .in_ (ramp 32) unit32)).bufs := by decide +kernel
theorem witness_BHeadTakesFirst :
    32 ≤ ((holding .x (ramp 33) unit32).buf .x).length ∧ 32 ≤ cap unit32.params .ct ∧
    ((holding .x (ramp 33) unit32).buf .x).length < 34 ∧ cap unit32.params .ct < 33 := by decide +kernel
theorem witness_BTailTakesLast :
    16 ≤ ((holding .x (ramp 16) unit32).buf .x).length ∧ 16 ≤ cap unit32.params .tag ∧
    ((holding .x (ramp 16) unit32).buf .x).length < 17 ∧ cap unit32.params .tag < 17 := by decide +kernel
theorem witness_PopsRemoveBytes :
    20 ≤ ((holding .x (ramp 20) unit32).buf .x).length ∧ ((holding .x (ramp 20) unit32).buf .x).length < 21 := by
  decide +kernel
theorem witness_BCopyAssigns :
    ((holding .in_ (ramp 16) unit32).buf .in_).length ≤ cap unit32.params .lb ∧
    cap unit32.params .lb < ((holding .in_ (ramp 17) unit32).buf .in_).length := by decide +kernel
theorem witness_SplitsPopsAndConcat :
    BufId.ct ≠ .x ∧ BufId.ct ≠ .tag ∧ 17 ≤ ((holding .x (ramp 33) unit32).buf .x).length ∧
    17 ≤ cap unit32.params .ct ∧ ((holding .x (ramp 33) unit32).buf .x).length - 17 ≤ cap unit32.params .tag ∧
    ((holding .x (ramp 33) unit32).buf .x).length ≤ cap unit32.params .x ∧
    BufsFit unit32.params (holding .x (ramp 33) unit32).bufs := by decide +kernel
/-- A unit whose source has 40 bytes and a list of answers. -/
def reading (q : List ReadAnswer) : State := within (fun e => { e with sIn := ⟨ramp 40, none⟩, reads := q }) unit32
theorem witness_SReadStoresStream :
    (1 ≤ 32 ∧ 32 ≤ cap unit32.params .in_ ∧ (reading []).env.reads = [] ∧
      RdStatus.ok = (if ((reading []).env.sIn.slice 0 32).length < 32 then .eof else .ok)) ∧
    (reading [.sound]).env.reads = .sound :: [] ∧
    ((reading [.answer 0 .eof]).env.reads = .answer 0 .eof :: [] ∧ RdStatus.eof ≠ .err ∧
      ((reading []).env.sIn.slice 0 (32 - 0)).length = 32) ∧
    (reading []).env.sIn.endless = none ∧ (InStream.mk (ramp 8) (some 0)).endless ≠ none ∧ 0 + 8 ≤ (ramp 8).length ∧
    (0 : Nat) = 0 ∧ cap unit32.params .in_ < 33 := by decide +kernel
theorem witness_SReadFailureAborts :
    1 ≤ 16 ∧ 16 ≤ cap unit32.params .la ∧ (reading [.answer 8 .ok]).env.reads = .answer 8 .ok :: [] ∧
    ((reading [.answer 8 .ok]).env.sIn.slice (reading [.answer 8 .ok]).env.pos (16 - 8)).length < 16 ∧
    RdStatus.ok = .ok ∧ (reading [.answer 0 .err]).env.reads = .answer 0 .err :: [] ∧ RdStatus.err = .err := by
  decide +kernel
/-- A unit that has bytes to write, its sink having a list of answers. -/
def writing (q : List WriteAnswer) : State := within (fun e => { e with writes := q }) (holding .out [1, 2] unit32)
theorem witness_SWriteSendsAll :
    unit32.buf .out = [] ∧ (writing []).buf .out ≠ [] ∧ (writing []).env.writes = [] ∧
    (writing [.answer 0 .ok]).env.writes = .answer 0 .ok :: [] := by decide
theorem witness_SWriteFailureAborts :
    (writing [.answer 1 .ok]).buf .out ≠ [] ∧ (writing [.answer 1 .ok]).env.writes = .answer 1 .ok :: [] ∧ 0 < 1 ∧
    (writing [.answer 0 .err]).env.writes = .answer 0 .err :: [] ∧ WrStatus.err = .err := by decide
theorem witness_SilentPortBlocks :
    (Fits16 32 ∧ 1 ≤ 32 ∧ 32 ≤ cap unit32.params .in_ ∧
      (issuing [.op (encode (.sRead .in_ 32))] (reading [.hang])).pending = .op (encode (.sRead .in_ 32)) :: [] ∧
      (issuing [.op (encode (.sRead .in_ 32))] (reading [.hang])).env.reads = .hang :: [] ∧
      (issuing [.op (encode (.sRead .in_ 32))] (reading [.hang])).env.host = []) ∧
    ((issuing [.op (encode (.sWrite .out))] (writing [.hang])).buf .out ≠ [] ∧
      (issuing [.op (encode (.sWrite .out))] (writing [.hang])).pending = .op (encode (.sWrite .out)) :: [] ∧
      (issuing [.op (encode (.sWrite .out))] (writing [.hang])).env.writes = .hang :: [] ∧
      (issuing [.op (encode (.sWrite .out))] (writing [.hang])).env.host = []) := by decide +kernel
theorem witness_SDiagSendsRecord :
    ((holding .tag (ramp 16) unit32).buf .tag).length = 16 ∧ (unit32.buf .tag).length ≠ 16 := by decide +kernel
theorem witness_AbortSequence :
    (issuing [.raise .inputTooShort] unit32).pending = .raise .inputTooShort :: [] ∧
    (∀ m h, (issuing [.raise .inputTooShort] unit32).env.host ≠ .reset m :: h) := ⟨rfl, no_reset_in_empty⟩
theorem witness_EncryptionSteps :
    (atLabel .en4 unit32).fsm = .streaming ∧ (atLabel .en4 unit32).pending = [] ∧ (atLabel .en4 unit32).env.host = [] ∧
    (atLabel .en4 unit32).label = .en4 := by decide
theorem witness_DecryptionSteps :
    (atLabel .df1 unit32).fsm = .streaming ∧ (atLabel .df1 unit32).pending = [] ∧ (atLabel .df1 unit32).env.host = [] ∧
    (atLabel .df1 unit32).label = .df1 := by decide
theorem witness_DriverActions :
    (issuing [.markLast] unit32).pending = .markLast :: [] ∧ (issuing [.countOut] unit32).pending = .countOut :: [] ∧
    (issuing [.goto .en2] unit32).pending = .goto .en2 :: [] ∧
    (issuing [.complete 0x00] unit32).pending = .complete 0x00 :: [] ∧ (issuing [.markLast] unit32).env.host = [] := by
  decide
theorem witness_FullChunkTest :
    (atLabel .de2 unit32).fsm = .streaming ∧ (atLabel .de2 unit32).label = .de2 ∧ (atLabel .de2 unit32).pending = [] ∧
    (atLabel .de2 unit32).env.host = [] ∧
    ((atLabel .de2 (holding .in_ (ramp 32) unit32)).buf .in_).length = unit32.params.chunk ∧
    ((atLabel .de2 (holding .in_ (ramp 31) unit32)).buf .in_).length ≠ unit32.params.chunk := by decide +kernel
theorem witness_DecryptUndoesEncrypt : (bound .enc unit32).ctx.dir = .enc := rfl
theorem witness_StreamingIsOneShotGcm : v1Key.length = 32 ∧ (zeroBytes 16).length = 16 ∧ (zeroBytes 24).length = 24 := by
  decide +kernel
theorem witness_CounterBlocksDistinct : (0 : Nat) ≤ 2 ^ 32 - 2 ∧ 2 ^ 32 - 2 ≤ 2 ^ 32 - 2 := by decide

/-- What the statements on a whole call suppose of the state, the streams' lengths aside. -/
abbrev Launch (w : Word) (z : KeySize) (k : KSel) (n : Nat) (s : State) : Prop :=
  s.fsm ≠ .streaming ∧ WellBehaved s ∧ s.env.host = [.writeCmd w] ∧ s.env.pos = 0 ∧ kselSize k = some z ∧
    z ∈ s.params.keySizes ∧ 1 ≤ n ∧ n ≤ s.params.ivMax
/-- A unit about to be given a command, its source holding a stream and a list of answers. -/
def launching (w : Word) (p : List Byte) (q : List ReadAnswer) : State :=
  { unit32 with env := { Env.quiet with host := [.writeCmd w], sIn := ⟨p, none⟩, reads := q } }
theorem launching_driverInv (w : Word) (p : List Byte) (q : List ReadAnswer) : DriverInv (launching w p q) :=
  ⟨unit32_structInv, fun _ => ⟨rfl, rfl, rfl⟩, ⟨fun _ => rfl, fun hd => nomatch hd⟩, fun hs => nomatch hs⟩
theorem witness_EncryptCallComputesGcm :
    DriverInv (launching (encode (.encrypt .k128 12)) (ramp 33) []) ∧
    Launch (encode (.encrypt .k128 12)) .k128 .k128 12 (launching (encode (.encrypt .k128 12)) (ramp 33) []) ∧
    (ramp 33).length ≤ Config.msgMax := ⟨launching_driverInv _ _ _, by decide +kernel⟩
/-- The source waits once and says `EOF` with its last full chunk (R63, R161 (a)). -/
theorem witness_EncryptCallComputesGcm_eof :
    Launch (encode (.encrypt .k128 12)) .k128 .k128 12
      (launching (encode (.encrypt .k128 12)) (ramp 32) [.wait, .answer 0 .eof]) := by decide +kernel
theorem witness_DecryptCallComputesGcm :
    DriverInv (launching (encode (.decrypt .k256 1)) (ramp 16) []) ∧
    Launch (encode (.decrypt .k256 1)) .k256 .k256 1 (launching (encode (.decrypt .k256 1)) (ramp 16) []) ∧
    16 ≤ (ramp 16).length ∧ (ramp 16).length - 16 ≤ Config.msgMax := ⟨launching_driverInv _ _ _, by decide +kernel⟩
theorem witness_DecryptCallComputesGcm_eof :
    Launch (encode (.decrypt .k256 1)) .k256 .k256 1
      (launching (encode (.decrypt .k256 1)) (ramp 48) [.sound, .answer 0 .eof]) := by decide +kernel
theorem witness_ShortInputIsTooShort :
    DriverInv (launching (encode (.decrypt .k192 65535)) (ramp 15) []) ∧
    Launch (encode (.decrypt .k192 65535)) .k192 .k192 65535
      (launching (encode (.decrypt .k192 65535)) (ramp 15) []) ∧
    (ramp 15).length < 16 := ⟨launching_driverInv _ _ _, by decide +kernel⟩

end Sys2Proof.Tests
end

section
/-! SUPPORT. The rules the buffer operations are proved from: what one register write keeps, what a violation leaves,
and what an operation does whose effect is an assignment (R140). -/

namespace Sys2Proof.Machine

open Sys2Proof.Safety

/-! ### One register write and the abort -/

theorem Bufs.set_get_self (b : Bufs) (r : BufId) : b.set r (b.get r) = b := by cases r <;> rfl

/-- A register written with what it holds leaves the whole state as it is. -/
theorem State.setBuf_buf_eq_self (s : State) (r : BufId) : s.setBuf r (s.buf r) = s := by
  rw [State.setBuf, State.buf, Bufs.set_get_self]

/-- The frame of a register write. -/
theorem onlyBuf_setBuf (dst : BufId) (v : List Byte) (s : State) : OnlyBuf dst s (s.setBuf dst v) :=
  ⟨rfl, fun _ hr => s.setBuf_buf_ne v hr, fun _ => ⟨rfl, rfl⟩⟩

theorem aborted_abort (c : Code) (s : State) : Aborted c s (abort c s) :=
  ⟨rfl, rfl, rfl, rfl, rfl, rfl, rfl, rfl, rfl⟩

theorem violates_of_exec_eq_violate {i : Instr} {s : State} (hi : exec i s = violate s) : Violates i s :=
  ⟨abort .contractViolation s, hi, aborted_abort _ s⟩

theorem assign_eq_violate {dst : BufId} {v : List Byte} {s : State} (h : cap s.params dst < v.length) :
    assign dst v s = violate s := if_neg (Nat.not_le.mpr h)

/-! ### What each buffer operation on values is -/

theorem exec_bConcat (dst a b : BufId) (s : State) :
    exec (.bConcat dst a b) s = assign dst (s.buf a ++ s.buf b) s := rfl

theorem exec_bHead (dst src : BufId) (n : Nat) (s : State) :
    exec (.bHead dst src n) s =
      if n ≤ (s.buf src).length then assign dst ((s.buf src).take n) s else violate s := rfl

theorem exec_bTail (dst src : BufId) (n : Nat) (s : State) :
    exec (.bTail dst src n) s =
      if n ≤ (s.buf src).length then assign dst ((s.buf src).drop ((s.buf src).length - n)) s else violate s := rfl

theorem exec_bPopFront (dst : BufId) (n : Nat) (s : State) :
    exec (.bPopFront dst n) s =
      if n ≤ (s.buf dst).length then .next (s.setBuf dst ((s.buf dst).drop n)) else violate s := rfl

theorem exec_bPopBack (dst : BufId) (n : Nat) (s : State) :
    exec (.bPopBack dst n) s =
      if n ≤ (s.buf dst).length then .next (s.setBuf dst ((s.buf dst).take ((s.buf dst).length - n)))
      else violate s := rfl

theorem exec_bCopy (dst src : BufId) (s : State) : exec (.bCopy dst src) s = assign dst (s.buf src) s := rfl

/-! ### Operations whose effect is an assignment under a bound on their count -/

/-- Within both bounds of R145 and R146 the assignment is made: the source is long enough and the value fits. -/
theorem exec_next_of_guarded_assign {i : Instr} {dst : BufId} {v : List Byte} {n len : Nat} {s : State}
    (hi : exec i s = if n ≤ len then assign dst v s else violate s) (hv : n ≤ len → v.length = n)
    (hn : n ≤ len) (hc : n ≤ cap s.params dst) : exec i s = .next (s.setBuf dst v) := by
  rw [hi, if_pos hn, assign_eq ((hv hn).trans_le hc)]

/-- Past either bound it is a contract violation: the first is the operation's own check, the second that of the
assignment (R140). -/
theorem violates_of_guarded_assign {i : Instr} {dst : BufId} {v : List Byte} {n len : Nat} {s : State}
    (hi : exec i s = if n ≤ len then assign dst v s else violate s) (hv : n ≤ len → v.length = n)
    (h : len < n ∨ cap s.params dst < n) : Violates i s := by
  apply violates_of_exec_eq_violate
  rw [hi]
  split
  case isTrue hn =>
    have hc : cap s.params dst < n := h.resolve_left (Nat.not_lt.mpr hn)
    exact assign_eq_violate (hc.trans_eq (hv hn).symm)
  case isFalse => rfl

theorem length_drop_sub {α : Type} {v : List α} {n : Nat} (h : n ≤ v.length) :
    (v.drop (v.length - n)).length = n := by
  rw [List.length_drop, Nat.sub_sub_self h]

/-! ### Concatenation -/

theorem exec_bConcat_of_fits {dst a b : BufId} {s : State}
    (h : (s.buf a).length + (s.buf b).length ≤ cap s.params dst) :
    exec (.bConcat dst a b) s = .next (s.setBuf dst (s.buf a ++ s.buf b)) := by
  rw [exec_bConcat, assign_eq (List.length_append.trans_le h)]

/-- Two registers whose capacities add up to the destination's always join (R21, R144). -/
theorem exec_bConcat_of_cap_add_eq {dst a b : BufId} {s : State} (hs : BufsFit s.params s.bufs)
    (h : cap s.params a + cap s.params b = cap s.params dst) :
    exec (.bConcat dst a b) s = .next (s.setBuf dst (s.buf a ++ s.buf b)) :=
  exec_bConcat_of_fits ((Nat.add_le_add (bufsFit_buf hs a) (bufsFit_buf hs b)).trans_eq h)

theorem cap_in_add_cap_la (p : Params) : cap p .in_ + cap p .la = cap p .x := rfl

theorem cap_lb_add_cap_in (p : Params) : cap p .lb + cap p .in_ = cap p .x := Nat.add_comm ..

end Sys2Proof.Machine
end

section
/-! The obligations on the buffer operations (R144 to R149). -/

namespace Sys2Proof.Certificates

open Sys2Proof.Machine Sys2Proof.Safety

/-- Settles O37, from the rule of `assign` and, for the driver's two pairs, the sum of the capacities (R21). -/
theorem bConcatJoins : Obligations.BConcatJoins := by
  refine ⟨by decide, fun dst a b s => ⟨fun h => ?joins, fun h => ?violates⟩, fun s hs =>
    ⟨cap_in_add_cap_la _, cap_lb_add_cap_in _, ?inLa, ?lbIn⟩⟩
  case joins => exact ⟨_, exec_bConcat_of_fits h, s.setBuf_buf_self .., onlyBuf_setBuf ..⟩
  case violates =>
    have hover : cap s.params dst < (s.buf a ++ s.buf b).length := h.trans_eq List.length_append.symm
    exact violates_of_exec_eq_violate ((exec_bConcat ..).trans (assign_eq_violate hover))
  case inLa => exact ⟨_, exec_bConcat_of_cap_add_eq hs (cap_in_add_cap_la _), s.setBuf_buf_self ..⟩
  case lbIn => exact ⟨_, exec_bConcat_of_cap_add_eq hs (cap_lb_add_cap_in _), s.setBuf_buf_self ..⟩

/-- Settles O38: `B.HEAD` assigns the first `n` bytes, guarded by the source's length. -/
theorem bHeadTakesFirst : Obligations.BHeadTakesFirst := by
  refine ⟨by decide, fun dst src n s => ?_⟩
  have hlen : n ≤ (s.buf src).length → ((s.buf src).take n).length = n := List.length_take_of_le
  exact ⟨fun hn hc => ⟨_, exec_next_of_guarded_assign (exec_bHead ..) hlen hn hc, s.setBuf_buf_self ..,
    onlyBuf_setBuf ..⟩, violates_of_guarded_assign (exec_bHead ..) hlen⟩

/-- Settles O39: `B.TAIL` assigns the last `n` bytes, guarded by the source's length; the bytes before
them are the `head` asked for. -/
theorem bTailTakesLast : Obligations.BTailTakesLast := by
  refine ⟨by decide, fun dst src n s => ⟨fun hn hc => ?taken, ?violates⟩⟩
  case taken =>
    refine ⟨_, exec_next_of_guarded_assign (exec_bTail ..) length_drop_sub hn hc, ?_, ?_, onlyBuf_setBuf ..⟩
    · rw [State.setBuf_buf_self, length_drop_sub hn]
    · rw [State.setBuf_buf_self]
      exact ⟨_, (List.take_append_drop ..).symm⟩
  case violates => exact violates_of_guarded_assign (exec_bTail ..) length_drop_sub

/-- Settles O40: within the length each pop writes back what it keeps, and the removed bytes complete the old value. -/
theorem popsRemoveBytes : Obligations.PopsRemoveBytes := by
  refine ⟨by decide, by decide, fun dst n s => ⟨fun hn => ⟨?front, ?back⟩, fun hn => ?violates⟩⟩
  case front =>
    refine ⟨_, (exec_bPopFront dst n s).trans (if_pos hn), ?_, ?_, onlyBuf_setBuf ..⟩
    · rw [State.setBuf_buf_self, List.length_drop]
    · rw [State.setBuf_buf_self]
      exact ⟨_, (List.take_append_drop ..).symm⟩
  case back =>
    refine ⟨_, (exec_bPopBack dst n s).trans (if_pos hn), ?_, ?_, onlyBuf_setBuf ..⟩
    · rw [State.setBuf_buf_self, List.length_take_of_le (Nat.sub_le ..)]
    · rw [State.setBuf_buf_self]
      exact ⟨_, (List.take_append_drop ..).symm⟩
  case violates =>
    have hover : ¬ n ≤ (s.buf dst).length := Nat.not_le.mpr hn
    exact ⟨violates_of_exec_eq_violate ((exec_bPopFront ..).trans (if_neg hover)),
      violates_of_exec_eq_violate ((exec_bPopBack ..).trans (if_neg hover))⟩

/-- Settles O41: `B.COPY` is the bare assignment, and `B.HEAD` of the whole length passes its guard with the whole
value. -/
theorem bCopyAssigns : Obligations.BCopyAssigns := by
  refine ⟨by decide, fun dst src s => ⟨fun h => ?assigns, fun h => ?violates, ?isHead⟩⟩
  case assigns =>
    have hself : dst = src → s.setBuf dst (s.buf src) = s := by
      rintro rfl
      exact s.setBuf_buf_eq_self dst
    exact ⟨_, (exec_bCopy ..).trans (assign_eq h), s.setBuf_buf_self .., onlyBuf_setBuf .., hself⟩
  case violates => exact violates_of_exec_eq_violate ((exec_bCopy ..).trans (assign_eq_violate h))
  case isHead => rw [exec_bCopy, exec_bHead, if_pos le_rfl, List.take_length]

end Sys2Proof.Certificates
end

section
/-! SUPPORT. What a step is while the host's script is empty (R31, R32): the taking up of the driver step at `STEP`, the
first of the actions left, and the two together for a driver step that is a jump alone. -/

namespace Sys2Proof.Machine

/-! ### Writing back what is held -/

theorem State.setHost_eq_self {s : State} {h : List HostEvent} (hh : s.env.host = h) : s.setHost h = s := by
  subst hh; rfl

theorem State.setPending_eq_self {s : State} {p : List Action} (hp : s.pending = p) : s.setPending p = s := by
  subst hp; rfl

/-! ### One step -/

/-- Reset comes only from the host's script (R321). -/
theorem step_eq_cycleNoReset {s : State} (hh : s.env.host = []) : step s = cycleNoReset s := by
  rw [step, cycle, hh]

/-- Between driver steps the unit does what it does by itself. -/
theorem step_of_pending_nil {s : State} (hp : s.pending = []) (hh : s.env.host = []) :
    step s = .next (advanceDriver s) := by
  rw [step_eq_cycleNoReset hh, cycleNoReset, hp, hh]

/-- A busy unit takes up the driver step at `STEP` (R31). -/
theorem step_takes_up_driverStep {s : State} (hf : s.fsm = .streaming) (hp : s.pending = [])
    (hh : s.env.host = []) : step s = .next (s.setPending (driverStep s)) := by
  rw [step_of_pending_nil hp hh, advanceDriver, if_pos hf]

/-- Inside a driver step its first action runs and the others are left. -/
theorem step_of_pending_cons {s : State} {a : Action} {rest : List Action} (hp : s.pending = a :: rest)
    (hh : s.env.host = []) : step s = runAction a (s.setPending rest) := by
  have hrest : (s.setPending rest).setHost (hostAfterAction s.env.host) = s.setPending rest :=
    State.setHost_eq_self (by rw [hh]; exact hh)
  rw [step_eq_cycleNoReset hh, cycleNoReset, hp]
  exact congrArg (runAction a) hrest

theorem runAction_goto (l : Label) (s : State) : runAction (.goto l) s = .next (s.goto l) := rfl

/-! ### Runs -/

/-- A run goes on from where its first step leads. -/
theorem run_succ_of_step {s t : State} (h : step s = .next t) (k : Nat) :
    Sys2Proof.core.run (k + 1) s = Sys2Proof.core.run k t := by
  have hcore : Sys2Proof.core.step s = .next t := h
  simp only [Host.Core.run, hcore]

/-- A driver step that is a jump alone is taken up and performed, and changes `STEP` only (R14). -/
theorem run_two_of_driverStep_goto {s : State} {l : Label} (hd : driverStep s = [.goto l]) (hf : s.fsm = .streaming)
    (hp : s.pending = []) (hh : s.env.host = []) : Sys2Proof.core.run 2 s = .next (s.goto l) := by
  have htaken : step s = .next (s.setPending [.goto l]) := hd ▸ step_takes_up_driverStep hf hp hh
  have hjump : step (s.setPending [.goto l]) = .next (s.goto l) := by
    rw [step_of_pending_cons (State.setPending_pending ..) hh, runAction_goto]
    exact congrArg (fun t => Host.Outcome.next (t.goto l)) (State.setPending_eq_self hp)
  calc Sys2Proof.core.run 2 s
    _ = Sys2Proof.core.run 1 (s.setPending [.goto l]) := run_succ_of_step htaken 1
    _ = Sys2Proof.core.run 0 (s.goto l) := run_succ_of_step hjump 0
    _ = .next (s.goto l) := rfl

/-! ### The driver step `DE2` -/

theorem driverStep_de2 {s : State} (hl : s.label = .de2) :
    driverStep s = [.goto (if (s.buf .in_).length = s.params.chunk then .de3 else .de9)] := by
  rw [driverStep, hl, stepDe2]

end Sys2Proof.Machine
end

section
/-! The obligation on the driver's test for a full chunk (R192). -/

namespace Sys2Proof.Certificates

open Sys2Proof.Machine

/-- Settles O53: `DE2` is a jump alone, whose label the length of `IN` selects. -/
theorem fullChunkTest : Obligations.FullChunkTest := by
  intro s hf hl hp hh
  have hrun := run_two_of_driverStep_goto (driverStep_de2 hl) hf hp hh
  constructor
  case left => exact fun hfull => by rw [hrun, if_pos hfull]
  case right => exact fun hpartial => by rw [hrun, if_neg hpartial]

end Sys2Proof.Certificates
end

section
/-! SUPPORT. What a step is inside a driver step whatever the host's script holds, reset aside (R32, R321), and what it
leaves when its action is a `raise` (R14, R296). -/

namespace Sys2Proof.Machine

open Sys2Proof.Safety

/-! ### One step while reset is not asserted -/

theorem step_eq_cycleNoReset_of_not_reset {s : State} (hr : ∀ m h, s.env.host ≠ .reset m :: h) :
    step s = cycleNoReset s := by
  rw [step, cycle]
  split
  next m h hreset => exact absurd hreset (hr m h)
  next => rfl

/-- Only reset keeps the first action left of a driver step from running; the host's accesses wait (R32, R321). -/
theorem step_runs_pending_head {s : State} {a : Action} {rest : List Action} (hp : s.pending = a :: rest)
    (hr : ∀ m h, s.env.host ≠ .reset m :: h) :
    step s = runAction a ((s.setPending rest).setHost (hostAfterAction s.env.host)) := by
  rw [step_eq_cycleNoReset_of_not_reset hr, cycleNoReset, hp]

/-! ### The abort as an outcome -/

theorem raise_eq (c : Code) (s : State) : raise c s = .next (abort c s) := rfl

theorem runAction_raise (c : Code) (s : State) : runAction (.raise c) s = .next (abort c s) := raise_eq c s

/-- The abort writes neither operand memory (R296). -/
theorem operandsKept_abort (c : Code) (s : State) : OperandsKept s (abort c s) := fun a =>
  ⟨congrArg (Memory.read · a) (abort_key c s), congrArg (Memory.read · a) (abort_ivmem c s)⟩

end Sys2Proof.Machine
end

section
/-! The obligation on the abort sequence (R296). -/

namespace Sys2Proof.Certificates

open Sys2Proof.Machine

/-- Settles O49: `raise` and a `raise` first among the actions left both answer `abort`, the second in the state with
that action taken off; `abort` empties what is left of the step (R14). -/
theorem abortSequence : Obligations.AbortSequence := by
  constructor
  case left => exact fun c s => ⟨_, raise_eq c s, aborted_abort c s, operandsKept_abort c s⟩
  case right =>
    intro c s rest hp hr
    have hstep := (step_runs_pending_head hp hr).trans (runAction_raise c _)
    exact ⟨_, hstep, aborted_abort c _, abort_pending c _⟩

end Sys2Proof.Certificates
end

section
/-! SUPPORT. The fields of a packed word and what the decoder's guards let through: the two together give R111's round
trips. -/

namespace Sys2Proof

/-! ### Fields -/

theorem field_lt (w : Word) (lo len : Nat) : field w lo len < 2 ^ len := Nat.mod_lt _ (Nat.two_pow_pos _)

/-- A field that is zero is zero in each of its parts. -/
theorem field_eq_zero_of_within {w : Word} {lo len lo' len' : Nat} (h : field w lo len = 0)
    (hlo : lo ≤ lo') (hhi : lo' + len' ≤ lo + len) : field w lo' len' = 0 := by
  obtain ⟨a, rfl⟩ := Nat.exists_eq_add_of_le hlo
  have ha : a + len' ≤ len := by omega
  rw [field] at h ⊢
  rw [Nat.pow_add, ← Nat.div_div_eq_div_mul, ← Nat.dvd_iff_mod_eq_zero]
  have hd : 2 ^ (a + len') ∣ w.toNat / 2 ^ lo := (pow_dvd_pow 2 ha).trans (Nat.dvd_of_mod_eq_zero h)
  rw [Nat.pow_add] at hd
  exact Nat.dvd_div_of_mul_dvd hd

/-- The fields of a word of Format BN (R91). -/
@[simp] theorem fields_packBN {opc d a n : Nat} (ho : opc < 256) (hd : d < 8) (ha : a < 8) :
    opcOf (packBN opc d a n) = opc ∧ field (packBN opc d a n) 21 3 = d ∧ field (packBN opc d a n) 18 3 = a ∧
      field (packBN opc d a n) 16 2 = 0 ∧ field (packBN opc d a n) 0 16 = n % 2 ^ 16 := by
  simp only [opcOf, field, packBN, BitVec.toNat_ofNat]
  omega

/-- The must-be-zero fields of the rows of Formats BN and Z, by the operands that are zero (R98). -/
@[simp] theorem reserved_packBN {opc d a n : Nat} (hd : d < 8) (ha : a < 8) :
    field (packBN opc d a n) 16 5 = a * 4 ∧ field (packBN opc d a n) 0 18 = n % 2 ^ 16 ∧
      field (packBN opc d a n) 0 21 = a * 2 ^ 18 + n % 2 ^ 16 ∧
      field (packBN opc d a n) 0 24 = d * 2 ^ 21 + a * 2 ^ 18 + n % 2 ^ 16 ∧
      field (packBN opc d a n) 2 22 = d * 2 ^ 19 + a * 2 ^ 16 + n % 2 ^ 16 / 4 ∧
      field (packBN opc d a n) 0 2 = n % 4 := by
  simp only [field, packBN, BitVec.toNat_ofNat]
  omega

/-- The fields of a word of Formats T and I (R91). -/
@[simp] theorem fields_packT {opc d k n : Nat} (ho : opc < 256) (hd : d < 2) (hk : k < 4) :
    opcOf (packT opc d k n) = opc ∧ field (packT opc d k n) 23 1 = d ∧ field (packT opc d k n) 21 2 = k ∧
      field (packT opc d k n) 16 5 = 0 ∧ field (packT opc d k n) 0 16 = n % 2 ^ 16 := by
  simp only [opcOf, field, packT, BitVec.toNat_ofNat]
  omega

/-- The fields of a word of Format B3 (R91). -/
@[simp] theorem fields_packB3 {opc d a b : Nat} (ho : opc < 256) (hd : d < 8) (ha : a < 8) (hb : b < 8) :
    opcOf (packB3 opc d a b) = opc ∧ field (packB3 opc d a b) 21 3 = d ∧ field (packB3 opc d a b) 18 3 = a ∧
      field (packB3 opc d a b) 15 3 = b ∧ field (packB3 opc d a b) 0 15 = 0 := by
  simp only [opcOf, field, packB3, BitVec.toNat_ofNat]
  omega

/-- A word of Format BN is made of its fields. -/
theorem packBN_fields {w : Word} {opc : Nat} (ho : opcOf w = opc) (hz : field w 16 2 = 0) :
    packBN opc (field w 21 3) (field w 18 3) (field w 0 16) = w := by
  subst ho
  apply BitVec.eq_of_toNat_eq
  have hw := w.isLt
  simp only [opcOf, field, packBN, BitVec.toNat_ofNat] at hz ⊢
  omega

/-- A word of Formats T and I is made of its fields. -/
theorem packT_fields {w : Word} {opc : Nat} (ho : opcOf w = opc) (hz : field w 16 5 = 0) :
    packT opc (field w 23 1) (field w 21 2) (field w 0 16) = w := by
  subst ho
  apply BitVec.eq_of_toNat_eq
  have hw := w.isLt
  simp only [opcOf, field, packT, BitVec.toNat_ofNat] at hz ⊢
  omega

/-- A word of Format B3 is made of its fields. -/
theorem packB3_fields {w : Word} {opc : Nat} (ho : opcOf w = opc) (hz : field w 0 15 = 0) :
    packB3 opc (field w 21 3) (field w 18 3) (field w 15 3) = w := by
  subst ho
  apply BitVec.eq_of_toNat_eq
  have hw := w.isLt
  simp only [opcOf, field, packB3, BitVec.toNat_ofNat] at hz ⊢
  omega

/-- A word of Format K is made of its opcode and its kind. -/
theorem packK_fields {w : Word} {opc : Nat} (ho : opcOf w = opc) (hz : field w 2 22 = 0) :
    packBN opc 0 0 (field w 0 2) = w := by
  subst ho
  apply BitVec.eq_of_toNat_eq
  have hw := w.isLt
  simp only [opcOf, field, packBN, BitVec.toNat_ofNat] at hz ⊢
  omega

/-! ### Operand codes -/

@[simp] theorem bufId_lt (b : BufId) : bufId b < 8 := by cases b <;> decide

@[simp] theorem bufOfId_bufId (b : BufId) : bufOfId (bufId b) = some b := by cases b <;> rfl

theorem bufId_eq_of_bufOfId {x : Nat} {b : BufId} (h : bufOfId x = some b) : bufId b = x := by
  unfold bufOfId at h
  split at h <;> cases h <;> rfl

/-- Of the 3-bit ids, 7 alone is reserved (R99). -/
theorem bufOfId_eq_none_iff {x : Nat} (h : x < 8) : bufOfId x = none ↔ x = 7 := by
  interval_cases x <;> decide

@[simp] theorem kselNum_lt (k : KSel) : kselNum k < 4 := by cases k <;> decide

@[simp] theorem kselOfNum_kselNum (k : KSel) : kselOfNum (kselNum k) = k := by cases k <;> rfl

theorem kselNum_kselOfNum {x : Nat} (h : x < 4) : kselNum (kselOfNum x) = x := by interval_cases x <;> rfl

theorem dirNum_lt (d : Dir) : dirNum d < 2 := by cases d <;> decide

@[simp] theorem dirOfNum_dirNum (d : Dir) : dirOfNum (dirNum d) = d := by cases d <;> rfl

@[simp] theorem dirOfNum_zero : dirOfNum 0 = .enc := rfl

@[simp] theorem dirOfNum_one : dirOfNum 1 = .dec := rfl

theorem dirNum_dirOfNum {x : Nat} (h : x < 2) : dirNum (dirOfNum x) = x := by interval_cases x <;> rfl

@[simp] theorem kindOfNum_kindNum (k : DiagKind) : kindOfNum (kindNum k) = some k := by cases k <;> rfl

theorem kindNum_eq_of_kindOfNum {x : Nat} {k : DiagKind} (h : kindOfNum x = some k) : kindNum k = x := by
  unfold kindOfNum at h
  split at h <;> cases h <;> rfl

/-- Of the 2-bit kinds, 3 alone is reserved (R101). -/
theorem kindOfNum_eq_none_iff {x : Nat} (h : x < 4) : kindOfNum x = none ↔ x = 3 := by
  interval_cases x <;> decide

theorem bufId_of_dstOf {w : Word} {b : BufId} (h : dstOf w = some b) : bufId b = field w 21 3 := bufId_eq_of_bufOfId h

theorem bufId_of_srcaOf {w : Word} {b : BufId} (h : srcaOf w = some b) : bufId b = field w 18 3 := bufId_eq_of_bufOfId h

theorem bufId_of_srcbOf {w : Word} {b : BufId} (h : srcbOf w = some b) : bufId b = field w 15 3 := bufId_eq_of_bufOfId h

theorem kselNum_kselOf (w : Word) : kselNum (kselOf w) = field w 21 2 := kselNum_kselOfNum (field_lt w 21 2)

theorem dirNum_dirOf (w : Word) : dirNum (dirOf w) = field w 23 1 := dirNum_dirOfNum (field_lt w 23 1)

@[simp] theorem dirOf_packT {opc d k n : Nat} (ho : opc < 256) (hd : d < 2) (hk : k < 4) :
    dirOf (packT opc d k n) = dirOfNum d := by
  rw [dirOf, (fields_packT ho hd hk).2.1]

/-! ### The decoder's guards -/

@[simp] theorem whenZero_zero (k : Except DecodeError Instr) : whenZero 0 k = k := rfl

theorem whenZero_eq_ok_iff {x : Nat} {k : Except DecodeError Instr} {i : Instr} :
    whenZero x k = .ok i ↔ x = 0 ∧ k = .ok i := by
  unfold whenZero
  split <;> simp [*]

@[simp] theorem withBuf_some (b : BufId) (k : BufId → Except DecodeError Instr) : withBuf (some b) k = k b := rfl

theorem withBuf_eq_ok_iff {r : Option BufId} {k : BufId → Except DecodeError Instr} {i : Instr} :
    withBuf r k = .ok i ↔ ∃ b, r = some b ∧ k b = .ok i := by
  cases r <;> simp [withBuf]

/-- Every operation's word matches its row of the opcode table (R98). -/
theorem rowMatches (i : Instr) : Laws.RowMatches.Statement i := by
  cases i with
  | encrypt k n => exact Laws.RowMatches.encrypt k n
  | decrypt k n => exact Laws.RowMatches.decrypt k n
  | eInit d k n => exact Laws.RowMatches.eInit d k n
  | eUpdate d a => exact Laws.RowMatches.eUpdate d a
  | eFinalizeEnc => exact Laws.RowMatches.eFinalizeEnc
  | eSetTag a => exact Laws.RowMatches.eSetTag a
  | eFinalizeDec => exact Laws.RowMatches.eFinalizeDec
  | eRelease => exact Laws.RowMatches.eRelease
  | bEmpty d => exact Laws.RowMatches.bEmpty d
  | bFromArray d => exact Laws.RowMatches.bFromArray d
  | bResize d n => exact Laws.RowMatches.bResize d n
  | bConcat d a b => exact Laws.RowMatches.bConcat d a b
  | bHead d a n => exact Laws.RowMatches.bHead d a n
  | bTail d a n => exact Laws.RowMatches.bTail d a n
  | bPopFront d n => exact Laws.RowMatches.bPopFront d n
  | bPopBack d n => exact Laws.RowMatches.bPopBack d n
  | bCopy d a => exact Laws.RowMatches.bCopy d a
  | sRead d n => exact Laws.RowMatches.sRead d n
  | sWrite a => exact Laws.RowMatches.sWrite a
  | sDiag k => exact Laws.RowMatches.sDiag k

/-! ### What a legal word of each shape of operands is packed from -/

section Shapes

variable {w : Word} {opc : Nat} {i : Instr}

/-- No operand. -/
theorem packed_of_none {j : Instr} (ho : opcOf w = opc) (h : whenZero (field w 0 24) (.ok j) = .ok i) :
    i = j ∧ packBN opc 0 0 0 = w := by
  obtain ⟨hz, h⟩ := whenZero_eq_ok_iff.mp h
  have hp := packBN_fields ho (field_eq_zero_of_within hz (by decide) (by decide))
  rw [field_eq_zero_of_within (lo' := 21) (len' := 3) hz (by decide) (by decide),
    field_eq_zero_of_within (lo' := 18) (len' := 3) hz (by decide) (by decide),
    field_eq_zero_of_within (lo' := 0) (len' := 16) hz (by decide) (by decide)] at hp
  cases h
  exact ⟨rfl, hp⟩

/-- `DST` alone. -/
theorem packed_of_dst {f : BufId → Instr} (ho : opcOf w = opc)
    (h : whenZero (field w 0 21) (withBuf (dstOf w) fun d => .ok (f d)) = .ok i) :
    ∃ d, i = f d ∧ packBN opc (bufId d) 0 0 = w := by
  obtain ⟨hz, h⟩ := whenZero_eq_ok_iff.mp h
  obtain ⟨d, hd, h⟩ := withBuf_eq_ok_iff.mp h
  have hp := packBN_fields ho (field_eq_zero_of_within hz (by decide) (by decide))
  rw [← bufId_of_dstOf hd, field_eq_zero_of_within (lo' := 18) (len' := 3) hz (by decide) (by decide),
    field_eq_zero_of_within (lo' := 0) (len' := 16) hz (by decide) (by decide)] at hp
  cases h
  exact ⟨d, rfl, hp⟩

/-- `SRCA` alone. -/
theorem packed_of_srca {f : BufId → Instr} (ho : opcOf w = opc)
    (h : whenZero (field w 21 3) (whenZero (field w 0 18) (withBuf (srcaOf w) fun a => .ok (f a))) = .ok i) :
    ∃ a, i = f a ∧ packBN opc 0 (bufId a) 0 = w := by
  obtain ⟨hd, h⟩ := whenZero_eq_ok_iff.mp h
  obtain ⟨hz, h⟩ := whenZero_eq_ok_iff.mp h
  obtain ⟨a, ha, h⟩ := withBuf_eq_ok_iff.mp h
  have hp := packBN_fields ho (field_eq_zero_of_within hz (by decide) (by decide))
  rw [hd, ← bufId_of_srcaOf ha, field_eq_zero_of_within (lo' := 0) (len' := 16) hz (by decide) (by decide)] at hp
  cases h
  exact ⟨a, rfl, hp⟩

/-- `DST` and `SRCA`. -/
theorem packed_of_dst_srca {f : BufId → BufId → Instr} (ho : opcOf w = opc)
    (h : whenZero (field w 0 18) (withBuf (dstOf w) fun d => withBuf (srcaOf w) fun a => .ok (f d a)) = .ok i) :
    ∃ d a, i = f d a ∧ packBN opc (bufId d) (bufId a) 0 = w := by
  obtain ⟨hz, h⟩ := whenZero_eq_ok_iff.mp h
  obtain ⟨d, hd, h⟩ := withBuf_eq_ok_iff.mp h
  obtain ⟨a, ha, h⟩ := withBuf_eq_ok_iff.mp h
  have hp := packBN_fields ho (field_eq_zero_of_within hz (by decide) (by decide))
  rw [← bufId_of_dstOf hd, ← bufId_of_srcaOf ha,
    field_eq_zero_of_within (lo' := 0) (len' := 16) hz (by decide) (by decide)] at hp
  cases h
  exact ⟨d, a, rfl, hp⟩

/-- `DST` and a count. -/
theorem packed_of_dst_count {f : BufId → Nat → Instr} (ho : opcOf w = opc)
    (h : whenZero (field w 16 5) (withBuf (dstOf w) fun d => .ok (f d (countOf w))) = .ok i) :
    ∃ d, i = f d (countOf w) ∧ packBN opc (bufId d) 0 (countOf w) = w := by
  obtain ⟨hz, h⟩ := whenZero_eq_ok_iff.mp h
  obtain ⟨d, hd, h⟩ := withBuf_eq_ok_iff.mp h
  have hp := packBN_fields ho (field_eq_zero_of_within hz (by decide) (by decide))
  rw [← bufId_of_dstOf hd, field_eq_zero_of_within (lo' := 18) (len' := 3) hz (by decide) (by decide)] at hp
  cases h
  exact ⟨d, rfl, hp⟩

/-- `DST`, `SRCA` and a count. -/
theorem packed_of_dst_srca_count {f : BufId → BufId → Nat → Instr} (ho : opcOf w = opc)
    (h : whenZero (field w 16 2) (withBuf (dstOf w) fun d => withBuf (srcaOf w) fun a =>
      .ok (f d a (countOf w))) = .ok i) :
    ∃ d a, i = f d a (countOf w) ∧ packBN opc (bufId d) (bufId a) (countOf w) = w := by
  obtain ⟨hz, h⟩ := whenZero_eq_ok_iff.mp h
  obtain ⟨d, hd, h⟩ := withBuf_eq_ok_iff.mp h
  obtain ⟨a, ha, h⟩ := withBuf_eq_ok_iff.mp h
  have hp := packBN_fields ho hz
  rw [← bufId_of_dstOf hd, ← bufId_of_srcaOf ha] at hp
  cases h
  exact ⟨d, a, rfl, hp⟩

end Shapes

end Sys2Proof
end

section
/-! The obligations on the encoding (R98, R103, R111). -/

namespace Sys2Proof.Certificates

open Sys2Proof

/-- Settles O1: the fields of the packed word are what was packed, and its must-be-zero fields are zero; a count comes
back whole because it fits its field. -/
theorem decodeAfterEncode : Obligations.DecodeAfterEncode := by
  intro i hwf
  have hcount {n : Nat} (h : Fits16 n) : n < 65536 := by simpa [Fits16] using h
  cases i with
  | encrypt k n => simp [encode, decode, kselOf, countOf, hcount hwf]
  | decrypt k n => simp [encode, decode, kselOf, countOf, hcount hwf]
  | eInit d k n => cases d <;> simp [encode, decode, kselOf, countOf, dirNum, hcount hwf]
  | eUpdate d a => simp [encode, decode, dstOf, srcaOf]
  | eFinalizeEnc => simp [encode, decode]
  | eSetTag a => simp [encode, decode, srcaOf]
  | eFinalizeDec => simp [encode, decode]
  | eRelease => simp [encode, decode]
  | bEmpty d => simp [encode, decode, dstOf]
  | bFromArray d => simp [encode, decode, dstOf]
  | bResize d n => simp [encode, decode, dstOf, countOf, hcount hwf]
  | bConcat d a b => simp [encode, decode, dstOf, srcaOf, srcbOf]
  | bHead d a n => simp [encode, decode, dstOf, srcaOf, countOf, hcount hwf]
  | bTail d a n => simp [encode, decode, dstOf, srcaOf, countOf, hcount hwf]
  | bPopFront d n => simp [encode, decode, dstOf, countOf, hcount hwf]
  | bPopBack d n => simp [encode, decode, dstOf, countOf, hcount hwf]
  | bCopy d a => simp [encode, decode, dstOf, srcaOf]
  | sRead d n => simp [encode, decode, dstOf, countOf, hcount hwf]
  | sWrite a => simp [encode, decode, srcaOf]
  | sDiag k => cases k <;> simp [encode, decode, kindNum, kindOfNum]

/-- Settles O2: a legal word has zeros in its row's must-be-zero fields, so it is packed from its operands. -/
theorem encodeAfterDecode : Obligations.EncodeAfterDecode := by
  intro w i h
  have hcount : Fits16 (countOf w) := field_lt w 0 16
  unfold decode at h
  split at h
  case h_1 ho =>
    obtain ⟨hz, h⟩ := whenZero_eq_ok_iff.mp h
    have hp := packT_fields ho hz
    rw [← dirNum_dirOf, ← kselNum_kselOf] at hp
    split at h
    case h_1 hd =>
      cases h
      rw [hd] at hp
      exact ⟨hcount, hp⟩
    case h_2 hd =>
      cases h
      rw [hd] at hp
      exact ⟨hcount, hp⟩
  case h_2 ho =>
    obtain ⟨hz, h⟩ := whenZero_eq_ok_iff.mp h
    have hp := packT_fields ho hz
    rw [← dirNum_dirOf, ← kselNum_kselOf] at hp
    cases h
    exact ⟨hcount, hp⟩
  case h_3 ho => obtain ⟨d, a, rfl, hp⟩ := packed_of_dst_srca ho h; exact ⟨trivial, hp⟩
  case h_4 ho => obtain ⟨rfl, hp⟩ := packed_of_none ho h; exact ⟨trivial, hp⟩
  case h_5 ho => obtain ⟨a, rfl, hp⟩ := packed_of_srca ho h; exact ⟨trivial, hp⟩
  case h_6 ho => obtain ⟨rfl, hp⟩ := packed_of_none ho h; exact ⟨trivial, hp⟩
  case h_7 ho => obtain ⟨rfl, hp⟩ := packed_of_none ho h; exact ⟨trivial, hp⟩
  case h_8 ho => obtain ⟨d, rfl, hp⟩ := packed_of_dst ho h; exact ⟨trivial, hp⟩
  case h_9 ho => obtain ⟨d, rfl, hp⟩ := packed_of_dst ho h; exact ⟨trivial, hp⟩
  case h_10 ho => obtain ⟨d, rfl, hp⟩ := packed_of_dst_count ho h; exact ⟨hcount, hp⟩
  case h_11 ho =>
    obtain ⟨hz, h⟩ := whenZero_eq_ok_iff.mp h
    obtain ⟨d, hd, h⟩ := withBuf_eq_ok_iff.mp h
    obtain ⟨a, ha, h⟩ := withBuf_eq_ok_iff.mp h
    obtain ⟨b, hb, h⟩ := withBuf_eq_ok_iff.mp h
    have hp := packB3_fields ho hz
    rw [← bufId_of_dstOf hd, ← bufId_of_srcaOf ha, ← bufId_of_srcbOf hb] at hp
    cases h
    exact ⟨trivial, hp⟩
  case h_12 ho => obtain ⟨d, a, rfl, hp⟩ := packed_of_dst_srca_count ho h; exact ⟨hcount, hp⟩
  case h_13 ho => obtain ⟨d, a, rfl, hp⟩ := packed_of_dst_srca_count ho h; exact ⟨hcount, hp⟩
  case h_14 ho => obtain ⟨d, rfl, hp⟩ := packed_of_dst_count ho h; exact ⟨hcount, hp⟩
  case h_15 ho => obtain ⟨d, rfl, hp⟩ := packed_of_dst_count ho h; exact ⟨hcount, hp⟩
  case h_16 ho => obtain ⟨d, a, rfl, hp⟩ := packed_of_dst_srca ho h; exact ⟨trivial, hp⟩
  case h_17 ho => obtain ⟨d, rfl, hp⟩ := packed_of_dst_count ho h; exact ⟨hcount, hp⟩
  case h_18 ho => obtain ⟨a, rfl, hp⟩ := packed_of_srca ho h; exact ⟨trivial, hp⟩
  case h_19 ho =>
    obtain ⟨hz, h⟩ := whenZero_eq_ok_iff.mp h
    split at h
    case h_1 k hk =>
      have hp : packBN 0x32 0 0 (field w 0 2) = w := packK_fields ho hz
      rw [← kindNum_eq_of_kindOfNum hk] at hp
      cases h
      exact ⟨trivial, hp⟩
    case h_2 => cases h
  case h_20 => cases h

/-- Settles O3: by R111 the word is that of its operation, and every operation's word matches its row. -/
theorem legalWordMatchesItsRow : Obligations.LegalWordMatchesItsRow := by
  intro w i h
  obtain ⟨-, rfl⟩ := encodeAfterDecode w i h
  exact rowMatches i

/-- Settles O5, by running the decoder on the twelve words. -/
theorem sampleWordsDecode : Obligations.SampleWordsDecode := by
  unfold Obligations.SampleWordsDecode
  decide

end Sys2Proof.Certificates
end

section
/-! SUPPORT. What the decoder answers on a word that matches a row of the opcode table, by the operands the row uses
(R98, R103). -/

namespace Sys2Proof

open Sys2Proof.Safety

/-! ### What a match says of the fields -/

theorem field_and (w m : Word) (lo len : Nat) : field (w &&& m) lo len = field w lo len &&& field m lo len := by
  apply Nat.eq_of_testBit_eq
  intro j
  simp only [field, BitVec.toNat_and, Nat.testBit_and, Nat.testBit_mod_two_pow, Nat.testBit_div_two_pow]
  by_cases hj : j < len <;> simp [hj]

/-- A field that the mask covers is that of the pattern. -/
theorem field_of_match {w m p : Word} (h : w &&& m = p) (lo len : Nat) (hm : field m lo len = 2 ^ len - 1) :
    field w lo len = field p lo len := by
  rw [← h, field_and, hm, Nat.and_two_pow_sub_one_eq_mod, Nat.mod_eq_of_lt (field_lt w lo len)]

/-! ### The three answers -/

/-- The decoder reads an operation of the row, and no reserved id is named; or it refuses the word for a reserved buffer
id, or for the reserved kind, that the word names. -/
def AnswersMatch (m : String) (w : Word) : Prop :=
  (∃ i, decode w = .ok i ∧ mnemonic i = m ∧ ¬ NamesReservedBuffer m w ∧ ¬ NamesReservedKind m w) ∨
  (decode w = .error .reservedBuffer ∧ NamesReservedBuffer m w ∧ ¬ NamesReservedKind m w) ∨
  (decode w = .error .reservedKind ∧ NamesReservedKind m w ∧ ¬ NamesReservedBuffer m w)

theorem dstOf_eq_none_iff (w : Word) : dstOf w = none ↔ field w 21 3 = 7 := bufOfId_eq_none_iff (field_lt w 21 3)

theorem srcaOf_eq_none_iff (w : Word) : srcaOf w = none ↔ field w 18 3 = 7 := bufOfId_eq_none_iff (field_lt w 18 3)

theorem srcbOf_eq_none_iff (w : Word) : srcbOf w = none ↔ field w 15 3 = 7 := bufOfId_eq_none_iff (field_lt w 15 3)

@[simp] theorem withBuf_none (k : BufId → Except DecodeError Instr) : withBuf none k = .error .reservedBuffer := rfl

section Shapes

variable {m : String} {w : Word}

/-- A row that uses no buffer register. -/
theorem answersMatch_of_ok {i : Instr} (hd : m ∉ dstMnemonics := by decide)
    (ha : m ∉ srcaMnemonics := by decide) (hb : m ≠ "B.CONCAT" := by decide)
    (hk : m ≠ "S.DIAG" := by decide) (hm : mnemonic i = m) (h : decode w = .ok i) : AnswersMatch m w :=
  .inl ⟨i, h, hm, by simp [NamesReservedBuffer, hd, ha, hb], by simp [NamesReservedKind, hk]⟩

/-- A row that uses `DST` alone. -/
theorem answersMatch_of_dst {f : BufId → Instr} (hd : m ∈ dstMnemonics := by decide)
    (ha : m ∉ srcaMnemonics := by decide) (hb : m ≠ "B.CONCAT" := by decide)
    (hk : m ≠ "S.DIAG" := by decide) (hm : ∀ d, mnemonic (f d) = m)
    (h : decode w = withBuf (dstOf w) fun d => .ok (f d)) :
    AnswersMatch m w := by
  have hnk : ¬ NamesReservedKind m w := by simp [NamesReservedKind, hk]
  have hnb : NamesReservedBuffer m w ↔ dstOf w = none := by
    simp [NamesReservedBuffer, hd, ha, hb, dstOf_eq_none_iff]
  cases hdst : dstOf w with
  | none => exact .inr (.inl ⟨by rw [h, hdst, withBuf_none], hnb.mpr hdst, hnk⟩)
  | some d => exact .inl ⟨f d, by rw [h, hdst, withBuf_some], hm d, by simp [hnb, hdst], hnk⟩

/-- A row that uses `SRCA` alone. -/
theorem answersMatch_of_srca {f : BufId → Instr} (hd : m ∉ dstMnemonics := by decide)
    (ha : m ∈ srcaMnemonics := by decide) (hb : m ≠ "B.CONCAT" := by decide)
    (hk : m ≠ "S.DIAG" := by decide) (hm : ∀ a, mnemonic (f a) = m)
    (h : decode w = withBuf (srcaOf w) fun a => .ok (f a)) :
    AnswersMatch m w := by
  have hnk : ¬ NamesReservedKind m w := by simp [NamesReservedKind, hk]
  have hnb : NamesReservedBuffer m w ↔ srcaOf w = none := by
    simp [NamesReservedBuffer, hd, ha, hb, srcaOf_eq_none_iff]
  cases hsrc : srcaOf w with
  | none => exact .inr (.inl ⟨by rw [h, hsrc, withBuf_none], hnb.mpr hsrc, hnk⟩)
  | some a => exact .inl ⟨f a, by rw [h, hsrc, withBuf_some], hm a, by simp [hnb, hsrc], hnk⟩

/-- A row that uses `DST` and `SRCA`. -/
theorem answersMatch_of_dst_srca {f : BufId → BufId → Instr} (hd : m ∈ dstMnemonics := by decide)
    (ha : m ∈ srcaMnemonics := by decide)
    (hb : m ≠ "B.CONCAT" := by decide) (hk : m ≠ "S.DIAG" := by decide) (hm : ∀ d a, mnemonic (f d a) = m)
    (h : decode w = withBuf (dstOf w) fun d => withBuf (srcaOf w) fun a => .ok (f d a)) : AnswersMatch m w := by
  have hnk : ¬ NamesReservedKind m w := by simp [NamesReservedKind, hk]
  have hnb : NamesReservedBuffer m w ↔ dstOf w = none ∨ srcaOf w = none := by
    simp [NamesReservedBuffer, hd, ha, hb, dstOf_eq_none_iff, srcaOf_eq_none_iff]
  cases hdst : dstOf w with
  | none => exact .inr (.inl ⟨by rw [h, hdst, withBuf_none], hnb.mpr (.inl hdst), hnk⟩)
  | some d =>
    cases hsrc : srcaOf w with
    | none => exact .inr (.inl ⟨by rw [h, hdst, hsrc, withBuf_some, withBuf_none], hnb.mpr (.inr hsrc), hnk⟩)
    | some a =>
      exact .inl ⟨f d a, by rw [h, hdst, hsrc, withBuf_some, withBuf_some], hm d a, by simp [hnb, hdst, hsrc], hnk⟩

/-- The row of `B.CONCAT`, that uses three buffer registers. -/
theorem answersMatch_of_concat (h : decode w = withBuf (dstOf w) fun d => withBuf (srcaOf w) fun a =>
    withBuf (srcbOf w) fun b => .ok (.bConcat d a b)) : AnswersMatch "B.CONCAT" w := by
  have hnk : ¬ NamesReservedKind "B.CONCAT" w := fun hk => absurd hk.1 (by decide)
  have hnb : NamesReservedBuffer "B.CONCAT" w ↔ dstOf w = none ∨ srcaOf w = none ∨ srcbOf w = none := by
    simp [NamesReservedBuffer, dstMnemonics, srcaMnemonics, dstOf_eq_none_iff, srcaOf_eq_none_iff, srcbOf_eq_none_iff]
  cases hdst : dstOf w with
  | none => exact .inr (.inl ⟨by rw [h, hdst, withBuf_none], hnb.mpr (.inl hdst), hnk⟩)
  | some d =>
    cases hsrc : srcaOf w with
    | none => exact .inr (.inl ⟨by rw [h, hdst, hsrc, withBuf_some, withBuf_none], hnb.mpr (.inr (.inl hsrc)), hnk⟩)
    | some a =>
      cases hsrb : srcbOf w with
      | none => exact .inr (.inl ⟨by simp [h, hdst, hsrc, hsrb], hnb.mpr (.inr (.inr hsrb)), hnk⟩)
      | some b =>
        exact .inl ⟨.bConcat d a b, by simp [h, hdst, hsrc, hsrb], rfl, by simp [hnb, hdst, hsrc, hsrb], hnk⟩

/-- The row of `S.DIAG`. -/
theorem answersMatch_of_diag (hs : ∀ k, kindOfNum (field w 0 2) = some k → decode w = .ok (.sDiag k))
    (hn : kindOfNum (field w 0 2) = none → decode w = .error .reservedKind) : AnswersMatch "S.DIAG" w := by
  have hnb : ¬ NamesReservedBuffer "S.DIAG" w := by simp [NamesReservedBuffer, dstMnemonics, srcaMnemonics]
  have hnk : NamesReservedKind "S.DIAG" w ↔ kindOfNum (field w 0 2) = none := by
    simp [NamesReservedKind, kindOfNum_eq_none_iff (field_lt w 0 2)]
  cases hkind : kindOfNum (field w 0 2) with
  | none => exact .inr (.inr ⟨hn hkind, hnk.mpr hkind, hnb⟩)
  | some k => exact .inl ⟨.sDiag k, hs k hkind, rfl, hnb, by simp [hnk, hkind]⟩

end Shapes

/-- R98, R103: the answer on a match, row by row: the pattern gives the opcode and the must-be-zero fields. -/
theorem answersMatch_of_row {w : Word} {r : OpRow} (hr : r ∈ opcodeTable) (h : w &&& r.mask = r.pattern) :
    AnswersMatch r.mnemonic w := by
  simp only [opcodeTable, List.cons_append, List.nil_append, List.mem_cons, List.not_mem_nil, or_false] at hr
  rcases hr with rfl | rfl | rfl | rfl | rfl | rfl | rfl | rfl | rfl | rfl | rfl | rfl | rfl | rfl | rfl | rfl | rfl |
    rfl | rfl | rfl
  · have ho : opcOf w = 0x01 := field_of_match h 24 8 (by decide)
    have hz : field w 16 5 = 0 := field_of_match h 16 5 (by decide)
    have hd : field w 23 1 = 0 := field_of_match h 23 1 (by decide)
    have hdir : dirOf w = .enc := by rw [dirOf, hd, dirOfNum_zero]
    exact answersMatch_of_ok (i := .encrypt (kselOf w) (countOf w)) (hm := rfl) (h := by simp [decode, ho, hz, hdir])
  · have ho : opcOf w = 0x01 := field_of_match h 24 8 (by decide)
    have hz : field w 16 5 = 0 := field_of_match h 16 5 (by decide)
    have hd : field w 23 1 = 1 := field_of_match (p := 0x01800000) h 23 1 (by decide)
    have hdir : dirOf w = .dec := by rw [dirOf, hd, dirOfNum_one]
    exact answersMatch_of_ok (i := .decrypt (kselOf w) (countOf w)) (hm := rfl) (h := by simp [decode, ho, hz, hdir])
  · have ho : opcOf w = 0x10 := field_of_match h 24 8 (by decide)
    have hz : field w 16 5 = 0 := field_of_match h 16 5 (by decide)
    exact answersMatch_of_ok (i := .eInit (dirOf w) (kselOf w) (countOf w)) (hm := rfl) (h := by simp [decode, ho, hz])
  · have ho : opcOf w = 0x11 := field_of_match h 24 8 (by decide)
    have hz : field w 0 18 = 0 := field_of_match h 0 18 (by decide)
    exact answersMatch_of_dst_srca (f := .eUpdate) (hm := fun _ _ => rfl) (h := by simp [decode, ho, hz])
  · have ho : opcOf w = 0x12 := field_of_match h 24 8 (by decide)
    have hz : field w 0 24 = 0 := field_of_match h 0 24 (by decide)
    exact answersMatch_of_ok (i := .eFinalizeEnc) (hm := rfl) (h := by simp [decode, ho, hz])
  · have ho : opcOf w = 0x13 := field_of_match h 24 8 (by decide)
    have hz : field w 21 3 = 0 := field_of_match h 21 3 (by decide)
    have hz1 : field w 0 18 = 0 := field_of_match h 0 18 (by decide)
    exact answersMatch_of_srca (f := .eSetTag) (hm := fun _ => rfl) (h := by simp [decode, ho, hz, hz1])
  · have ho : opcOf w = 0x14 := field_of_match h 24 8 (by decide)
    have hz : field w 0 24 = 0 := field_of_match h 0 24 (by decide)
    exact answersMatch_of_ok (i := .eFinalizeDec) (hm := rfl) (h := by simp [decode, ho, hz])
  · have ho : opcOf w = 0x15 := field_of_match h 24 8 (by decide)
    have hz : field w 0 24 = 0 := field_of_match h 0 24 (by decide)
    exact answersMatch_of_ok (i := .eRelease) (hm := rfl) (h := by simp [decode, ho, hz])
  · have ho : opcOf w = 0x20 := field_of_match h 24 8 (by decide)
    have hz : field w 0 21 = 0 := field_of_match h 0 21 (by decide)
    exact answersMatch_of_dst (f := .bEmpty) (hm := fun _ => rfl) (h := by simp [decode, ho, hz])
  · have ho : opcOf w = 0x21 := field_of_match h 24 8 (by decide)
    have hz : field w 0 21 = 0 := field_of_match h 0 21 (by decide)
    exact answersMatch_of_dst (f := .bFromArray) (hm := fun _ => rfl) (h := by simp [decode, ho, hz])
  · have ho : opcOf w = 0x22 := field_of_match h 24 8 (by decide)
    have hz : field w 16 5 = 0 := field_of_match h 16 5 (by decide)
    exact answersMatch_of_dst (f := (.bResize · (countOf w))) (hm := fun _ => rfl) (h := by simp [decode, ho, hz])
  · have ho : opcOf w = 0x23 := field_of_match h 24 8 (by decide)
    have hz : field w 0 15 = 0 := field_of_match h 0 15 (by decide)
    exact answersMatch_of_concat (by simp [decode, ho, hz])
  · have ho : opcOf w = 0x24 := field_of_match h 24 8 (by decide)
    have hz : field w 16 2 = 0 := field_of_match h 16 2 (by decide)
    exact answersMatch_of_dst_srca (f := (.bHead · · (countOf w))) (hm := fun _ _ => rfl)
      (h := by simp [decode, ho, hz])
  · have ho : opcOf w = 0x25 := field_of_match h 24 8 (by decide)
    have hz : field w 16 2 = 0 := field_of_match h 16 2 (by decide)
    exact answersMatch_of_dst_srca (f := (.bTail · · (countOf w))) (hm := fun _ _ => rfl)
      (h := by simp [decode, ho, hz])
  · have ho : opcOf w = 0x26 := field_of_match h 24 8 (by decide)
    have hz : field w 16 5 = 0 := field_of_match h 16 5 (by decide)
    exact answersMatch_of_dst (f := (.bPopFront · (countOf w))) (hm := fun _ => rfl) (h := by simp [decode, ho, hz])
  · have ho : opcOf w = 0x27 := field_of_match h 24 8 (by decide)
    have hz : field w 16 5 = 0 := field_of_match h 16 5 (by decide)
    exact answersMatch_of_dst (f := (.bPopBack · (countOf w))) (hm := fun _ => rfl) (h := by simp [decode, ho, hz])
  · have ho : opcOf w = 0x28 := field_of_match h 24 8 (by decide)
    have hz : field w 0 18 = 0 := field_of_match h 0 18 (by decide)
    exact answersMatch_of_dst_srca (f := .bCopy) (hm := fun _ _ => rfl) (h := by simp [decode, ho, hz])
  · have ho : opcOf w = 0x30 := field_of_match h 24 8 (by decide)
    have hz : field w 16 5 = 0 := field_of_match h 16 5 (by decide)
    exact answersMatch_of_dst (f := (.sRead · (countOf w))) (hm := fun _ => rfl) (h := by simp [decode, ho, hz])
  · have ho : opcOf w = 0x31 := field_of_match h 24 8 (by decide)
    have hz : field w 21 3 = 0 := field_of_match h 21 3 (by decide)
    have hz1 : field w 0 18 = 0 := field_of_match h 0 18 (by decide)
    exact answersMatch_of_srca (f := .sWrite) (hm := fun _ => rfl) (h := by simp [decode, ho, hz, hz1])
  · have ho : opcOf w = 0x32 := field_of_match h 24 8 (by decide)
    have hz : field w 2 22 = 0 := field_of_match h 2 22 (by decide)
    exact answersMatch_of_diag (fun k hk => by simp [decode, ho, hz, hk]) (fun hk => by simp [decode, ho, hz, hk])

end Sys2Proof
end

section
/-! The obligation on words that match a row (R98, R103). -/

namespace Sys2Proof.Certificates

open Sys2Proof

/-- Settles O4: the three answers of the decoder exclude each other, and each is one of the three cases. -/
theorem matchingWordDecodesOrIsReserved : Obligations.MatchingWordDecodesOrIsReserved := by
  intro w r hr h
  rcases answersMatch_of_row hr h with ⟨i, hi, hm, hnb, hnk⟩ | ⟨he, hb, hnk⟩ | ⟨he, hk, hnb⟩
  · exact ⟨fun _ _ => ⟨i, hi, hm⟩, fun hb => absurd hb hnb, fun hk => absurd hk hnk⟩
  · exact ⟨fun hnb => absurd hb hnb, fun _ => he, fun hk => absurd hk hnk⟩
  · exact ⟨fun _ hnk => absurd hk hnk, fun hb => absurd hb hnb, fun _ => he⟩

end Sys2Proof.Certificates
end

section
/-! SUPPORT. The laws of byte order: a block is its 16 bytes, and bytes written into a block from the left build the
block of what has come (R11, R125, R130). -/

namespace Sys2Proof.Machine

/-! ### Numbers and their bytes -/

@[simp] theorem beNat_nil : beNat [] = 0 := rfl

theorem beNat_concat (s : List Byte) (b : Byte) : beNat (s ++ [b]) = beNat s * 256 + b.toNat := by
  simp [beNat, List.foldl_append]

theorem beNat_lt (s : List Byte) : beNat s < 256 ^ s.length := by
  induction s using List.reverseRecOn with
  | nil => decide
  | append_singleton s b ih =>
    have hb := b.isLt
    rw [beNat_concat, List.length_append, List.length_singleton, Nat.pow_succ]
    omega

theorem beNat_append_zeroBytes (s : List Byte) (k : Nat) : beNat (s ++ zeroBytes k) = beNat s * 256 ^ k := by
  induction k with
  | zero => simp [zeroBytes]
  | succ k ih =>
    have happ : s ++ zeroBytes (k + 1) = (s ++ zeroBytes k) ++ [0] := by
      simp [zeroBytes, List.replicate_succ']
    rw [happ, beNat_concat, ih, Nat.pow_succ]
    simp [Nat.mul_assoc]

@[simp] theorem beBytes_length (n v : Nat) : (beBytes n v).length = n := by simp [beBytes]

theorem beBytes_succ (n v : Nat) : beBytes (n + 1) v = beBytes n (v / 256) ++ [BitVec.ofNat 8 v] := by
  have hdiv : ∀ i ∈ List.range n, BitVec.ofNat 8 (v / 256 ^ (n + 1 - 1 - i)) =
      BitVec.ofNat 8 (v / 256 / 256 ^ (n - 1 - i)) := by
    intro i hi
    have hexp : n + 1 - 1 - i = (n - 1 - i) + 1 := by have := List.mem_range.mp hi; omega
    rw [hexp, Nat.pow_succ', Nat.div_div_eq_div_mul]
  rw [beBytes, List.range_succ, List.map_append, List.map_congr_left hdiv]
  simp [beBytes]

/-- Writing out the number of a byte sequence gives the sequence back. -/
theorem beBytes_beNat (s : List Byte) : beBytes s.length (beNat s) = s := by
  induction s using List.reverseRecOn with
  | nil => rfl
  | append_singleton s b ih =>
    have hb := b.isLt
    have hhigh : (beNat s * 256 + b.toNat) / 256 = beNat s := by omega
    have hlow : BitVec.ofNat 8 (beNat s * 256 + b.toNat) = b := by
      apply BitVec.eq_of_toNat_eq
      rw [BitVec.toNat_ofNat]
      omega
    rw [List.length_append, List.length_singleton, beBytes_succ, beNat_concat, hhigh, hlow, ih]

/-- Reading the bytes of a number gives it back, as far as the bytes reach. -/
theorem beNat_beBytes (n v : Nat) : beNat (beBytes n v) = v % 256 ^ n := by
  induction n generalizing v with
  | zero => simp [beBytes, Nat.mod_one]
  | succ n ih =>
    have hsplit : v % (256 * 256 ^ n) = v % 256 + 256 * (v / 256 % 256 ^ n) := Nat.mod_mul
    rw [beBytes_succ, beNat_concat, ih, BitVec.toNat_ofNat, (Nat.pow_succ' : 256 ^ (n + 1) = 256 * 256 ^ n), hsplit]
    omega

/-! ### Blocks and their bytes -/

@[simp] theorem blockBytes_length (x : Block) : (blockBytes x).length = 16 := beBytes_length 16 _

@[simp] theorem bytesBlock_blockBytes (x : Block) : bytesBlock (blockBytes x) = x := by
  apply BitVec.eq_of_toNat_eq
  have hx : x.toNat < 256 ^ 16 := x.isLt.trans_eq (by decide)
  rw [bytesBlock, blockBytes, beNat_beBytes, Nat.mod_eq_of_lt hx, BitVec.toNat_ofNat, Nat.mod_eq_of_lt x.isLt]

theorem bytesBlock_toNat {s : List Byte} (h : s.length = 16) : (bytesBlock s).toNat = beNat s := by
  have hs : beNat s < 2 ^ 128 := (beNat_lt s).trans_eq (by rw [h]; decide)
  rw [bytesBlock, BitVec.toNat_ofNat, Nat.mod_eq_of_lt hs]

theorem blockBytes_bytesBlock {s : List Byte} (h : s.length = 16) : blockBytes (bytesBlock s) = s := by
  have hs := beBytes_beNat s
  rwa [h, ← bytesBlock_toNat h] at hs

/-! ### A block filled byte by byte -/

@[simp] theorem zeroBytes_length (n : Nat) : (zeroBytes n).length = n := by simp [zeroBytes]

theorem bytesBlock_zeroBytes : bytesBlock (zeroBytes 16) = 0 := by decide

/-- Clearing a byte that is zero and writing it adds it in. -/
theorem clear_or_byte (a k : Nat) (b : Byte) :
    (BitVec.ofNat 128 (a * 2 ^ (8 * (k + 1))) &&& ~~~BitVec.ofNat 128 (255 * 2 ^ (8 * k))) |||
      BitVec.ofNat 128 (b.toNat * 2 ^ (8 * k)) = BitVec.ofNat 128 ((a * 256 + b.toNat) * 2 ^ (8 * k)) := by
  apply BitVec.eq_of_getLsbD_eq
  intro j hj
  have hones (m : Nat) : Nat.testBit 255 m = decide (m < 8) := Nat.testBit_two_pow_sub_one 8 m
  have hsum (m : Nat) : (a * 256 + b.toNat).testBit m = if m < 8 then b.toNat.testBit m else a.testBit (m - 8) := by
    rw [Nat.mul_comm]
    exact Nat.testBit_two_pow_mul_add a b.isLt m
  have hb (m : Nat) (hm : 8 ≤ m) : b.toNat.testBit m = false :=
    Nat.testBit_lt_two_pow (b.isLt.trans_le (Nat.pow_le_pow_right (by decide) hm))
  simp only [BitVec.getLsbD_or, BitVec.getLsbD_and, BitVec.getLsbD_not, BitVec.getLsbD_ofNat, Nat.testBit_mul_two_pow,
    hones, hsum, hj, decide_true, Bool.true_and]
  by_cases hlow : 8 * k ≤ j
  · by_cases hbyte : j - 8 * k < 8
    · have hout : ¬ 8 * (k + 1) ≤ j := by omega
      simp [hlow, hbyte, hout]
    · have hin : 8 * (k + 1) ≤ j := by omega
      have hsub : j - 8 * k - 8 = j - 8 * (k + 1) := by omega
      simp [hlow, hbyte, hin, hsub, hb _ (Nat.not_lt.mp hbyte)]
  · have hout : ¬ 8 * (k + 1) ≤ j := by omega
    simp [hlow, hout]

/-- Byte `i` written into the block of the `i` bytes before it, zeros after, gives the block with that byte too. -/
theorem setBlockByte_bytesBlock (s : List Byte) (b : Byte) (h : s.length < 16) :
    setBlockByte (bytesBlock (s ++ zeroBytes (16 - s.length))) s.length b =
      bytesBlock ((s ++ [b]) ++ zeroBytes (15 - s.length)) := by
  obtain ⟨k, hk⟩ : ∃ k, 15 - s.length = k := ⟨_, rfl⟩
  have hk16 : 16 - s.length = k + 1 := by omega
  have hpow (e : Nat) : 256 ^ e = 2 ^ (8 * e) := by rw [Nat.pow_mul]
  rw [hk16, hk, setBlockByte, hk, bytesBlock, bytesBlock, beNat_append_zeroBytes, beNat_append_zeroBytes, beNat_concat,
    hpow, hpow]
  exact clear_or_byte _ _ _

end Sys2Proof.Machine
end

section
/-! SUPPORT. What the engine's functions do to a context: `Update` byte by byte and in pieces, the key schedule's
lengths, and the context `E.INIT` makes (R121, R125, R130, R246). -/

namespace Sys2Proof.Machine

/-! ### One byte through `Update` -/

/-- The ciphertext byte that `Update` takes into the authentication computation: its output when it encrypts, its input
when it decrypts (R125). -/
def cipherByte (c : Ctx) (b : Byte) : Byte :=
  if c.dir = .enc then b ^^^ keystreamByte c.rk c.nr.toNat c.j0 c.n else b

/-- A byte that completes a block. -/
theorem updateByte_of_last {c : Ctx} (h : c.n % 16 = 15) (b : Byte) :
    updateByte c b = (b ^^^ keystreamByte c.rk c.nr.toNat c.j0 c.n,
      { c with y := mulH (c.y ^^^ setBlockByte c.part 15 (cipherByte c b)) c.h, part := 0, n := c.n + 1 }) := by
  cases hd : c.dir <;> simp [updateByte, cipherByte, h, hd]

/-- A byte that does not. -/
theorem updateByte_of_not_last {c : Ctx} (h : c.n % 16 ≠ 15) (b : Byte) :
    updateByte c b = (b ^^^ keystreamByte c.rk c.nr.toNat c.j0 c.n,
      { c with part := setBlockByte c.part (c.n % 16) (cipherByte c b), n := c.n + 1 }) := by
  cases hd : c.dir <;> simp [updateByte, cipherByte, h, hd]

/-- What one byte leaves of the context: all but `Y`, `N` and `PART`, and `N` counts it. -/
theorem updateByte_ctx (c : Ctx) (b : Byte) :
    ∃ y part, (updateByte c b).2 = { c with y := y, n := c.n + 1, part := part } := by
  by_cases h : c.n % 16 = 15
  · exact ⟨_, _, congrArg Prod.snd (updateByte_of_last h b)⟩
  · exact ⟨c.y, _, congrArg Prod.snd (updateByte_of_not_last h b)⟩

@[simp] theorem updateByte_n (c : Ctx) (b : Byte) : (updateByte c b).2.n = c.n + 1 := by
  obtain ⟨y, part, h⟩ := updateByte_ctx c b
  rw [h]

@[simp] theorem updateByte_out (c : Ctx) (b : Byte) :
    (updateByte c b).1 = b ^^^ keystreamByte c.rk c.nr.toNat c.j0 c.n := by
  by_cases h : c.n % 16 = 15
  · exact congrArg Prod.fst (updateByte_of_last h b)
  · exact congrArg Prod.fst (updateByte_of_not_last h b)

/-! ### `Update` -/

@[simp] theorem update_nil (c : Ctx) : update c [] = ([], c) := rfl

theorem update_cons (c : Ctx) (b : Byte) (s : List Byte) :
    update c (b :: s) = ((updateByte c b).1 :: (update (updateByte c b).2 s).1, (update (updateByte c b).2 s).2) := rfl

@[simp] theorem update_length (c : Ctx) (s : List Byte) : (update c s).1.length = s.length := by
  induction s generalizing c with
  | nil => rfl
  | cons b s ih => simp [update_cons, ih]

/-- What `Update` leaves of the context: all but `Y`, `N` and `PART`, and `N` counts the bytes. -/
theorem update_ctx (c : Ctx) (s : List Byte) :
    ∃ y part, (update c s).2 = { c with y := y, n := c.n + s.length, part := part } := by
  induction s generalizing c with
  | nil => exact ⟨c.y, c.part, rfl⟩
  | cons b s ih =>
    obtain ⟨y, part, hbyte⟩ := updateByte_ctx c b
    obtain ⟨y', part', hrest⟩ := ih (updateByte c b).2
    refine ⟨y', part', ?_⟩
    rw [update_cons, hrest, hbyte, List.length_cons, Nat.add_assoc, Nat.add_comm 1]

@[simp] theorem update_n (c : Ctx) (s : List Byte) : (update c s).2.n = c.n + s.length := by
  obtain ⟨y, part, h⟩ := update_ctx c s
  rw [h]

theorem update_frame (c : Ctx) (s : List Byte) :
    { (update c s).2 with y := c.y, n := c.n, part := c.part } = c := by
  obtain ⟨y, part, h⟩ := update_ctx c s
  rw [h]

theorem update_append (c : Ctx) (a b : List Byte) :
    update c (a ++ b) = ((update c a).1 ++ (update (update c a).2 b).1, (update (update c a).2 b).2) := by
  induction a generalizing c with
  | nil => rfl
  | cons x a ih => rw [List.cons_append, update_cons, ih, update_cons]; rfl

theorem update_concat (c : Ctx) (s : List Byte) (b : Byte) :
    update c (s ++ [b]) = ((update c s).1 ++ [(updateByte (update c s).2 b).1], (updateByte (update c s).2 b).2) := by
  rw [update_append, update_cons, update_nil]

/-! ### Decryption against encryption -/

/-- A context turned to decryption. -/
def Ctx.decrypting (c : Ctx) : Ctx := { c with dir := .dec }

/-- Feeding an encrypting context's output byte to the same context turned to decryption gives the byte back and takes
the same ciphertext byte in. -/
theorem updateByte_decrypting {c : Ctx} (hd : c.dir = .enc) (b : Byte) :
    updateByte c.decrypting (updateByte c b).1 = (b, (updateByte c b).2.decrypting) := by
  have hback (k : Byte) : b ^^^ k ^^^ k = b := by rw [BitVec.xor_assoc, BitVec.xor_self, BitVec.xor_zero]
  by_cases h : c.n % 16 = 15
  · have h' : c.decrypting.n % 16 = 15 := h
    rw [updateByte_of_last h, updateByte_of_last h']
    simp [cipherByte, Ctx.decrypting, hd, hback]
  · have h' : c.decrypting.n % 16 ≠ 15 := h
    rw [updateByte_of_not_last h, updateByte_of_not_last h']
    simp [cipherByte, Ctx.decrypting, hd, hback]

theorem update_decrypting {c : Ctx} (hd : c.dir = .enc) (p : List Byte) :
    update c.decrypting (update c p).1 = (p, (update c p).2.decrypting) := by
  induction p generalizing c with
  | nil => rfl
  | cons b p ih =>
    have hd' : (updateByte c b).2.dir = .enc := by
      obtain ⟨y, part, h⟩ := updateByte_ctx c b
      rw [h, hd]
    rw [update_cons, update_cons, updateByte_decrypting hd, ih hd']

/-- The tag does not look at the direction (R130). -/
theorem finalTag_decrypting (c : Ctx) : finalTag c.decrypting = finalTag c := rfl

/-! ### The key schedule -/

@[simp] theorem blocksOf_length (m : Nat) (d : List Byte) : (blocksOf m d).length = m := by
  induction m generalizing d with
  | zero => rfl
  | succ m ih => rw [blocksOf, List.length_cons, ih]

/-- The key schedule makes `NR + 1` round keys (R246). -/
@[simp] theorem keyExpansion_length (key : List Byte) : (keyExpansion key).length = roundsOf key.length + 1 := by
  rw [keyExpansion, blocksOf_length]

/-- A key length the cipher has a variant for (R7). -/
abbrev KeyLength (n : Nat) : Prop := n = 16 ∨ n = 24 ∨ n = 32

theorem keyLength_keyLen (z : KeySize) : KeyLength (keyLen z) := by cases z <;> decide

theorem roundsOf_lt {n : Nat} (h : KeyLength n) : roundsOf n < 15 := by rcases h with rfl | rfl | rfl <;> decide

/-! ### The context `E.INIT` makes -/

section Init

variable {c : Ctx} {d : Dir} {key iv : List Byte}

@[simp] theorem initCtx_nr (hk : KeyLength key.length) : (initCtx c d key iv).nr.toNat = roundsOf key.length := by
  have h := roundsOf_lt hk
  simp only [initCtx, BitVec.toNat_ofNat]
  omega

theorem initCtx_rk : (initCtx c d key iv).rk = keyExpansion key ++ c.rk.drop (roundsOf key.length + 1) := by
  simp only [initCtx, overlayKeys, keyExpansion_length]

theorem initCtx_rk_length (hk : KeyLength key.length) (hc : c.rk.length = 15) :
    (initCtx c d key iv).rk.length = 15 := by
  have h := roundsOf_lt hk
  rw [initCtx_rk, List.length_append, List.length_drop, keyExpansion_length, hc]
  omega

end Init

end Sys2Proof.Machine
end

section
/-! The obligations on `Update` (R125, R135). -/

namespace Sys2Proof.Certificates

open Sys2Proof.Machine

/-- Settles O54, from the laws of `Update` on a list and on two. -/
theorem updateInPieces : Obligations.UpdateInPieces := fun c a b =>
  ⟨update_nil c, update_length c a, update_n c a, by rw [update_append], by rw [update_append]⟩

/-- Settles O55: byte by byte the keystream cancels, and both directions take the same ciphertext bytes in. -/
theorem decryptUndoesEncrypt : Obligations.DecryptUndoesEncrypt := fun c p hd =>
  ⟨update_decrypting hd p, finalTag_decrypting (update c p).2⟩

end Sys2Proof.Certificates
end

section
/-! SUPPORT. The streaming engine against the one-shot definition: what `Y`, `N` and `PART` hold of the ciphertext so
far (R125, R264, R267). -/

namespace Sys2Proof.Machine

/-! ### AES reads the round keys up to `NR` only -/

theorem aes_append {rk : List Block} {nr : Nat} (h : rk.length = nr + 1) (rest : List Block) (x : Block) :
    aes (rk ++ rest) nr x = aes rk nr x := by
  have hfirst : (rk ++ rest).getD 0 0 = rk.getD 0 0 := List.getD_append _ _ _ _ (by omega)
  have hlast : (rk ++ rest).getD nr 0 = rk.getD nr 0 := List.getD_append _ _ _ _ (by omega)
  have hmid : ((rk ++ rest).drop 1).take (nr - 1) = (rk.drop 1).take (nr - 1) := by
    rw [List.drop_append_of_le_length (by omega), List.take_append_of_le_length (by rw [List.length_drop]; omega)]
  simp only [aes, hfirst, hlast, hmid]

theorem keystreamByte_append {rk : List Block} {nr : Nat} (h : rk.length = nr + 1) (rest : List Block) (j0 : Block)
    (i : Nat) : keystreamByte (rk ++ rest) nr j0 i = keystreamByte rk nr j0 i := by
  rw [keystreamByte, aes_append h, keystreamByte]

theorem xorKeystream_append {rk : List Block} {nr : Nat} (h : rk.length = nr + 1) (rest : List Block) (j0 : Block)
    (i : Nat) (s : List Byte) : xorKeystream (rk ++ rest) nr j0 i s = xorKeystream rk nr j0 i s := by
  induction s generalizing i with
  | nil => rfl
  | cons b s ih => rw [xorKeystream, keystreamByte_append h, ih, xorKeystream]

/-! ### The output of `Update` -/

theorem update_out (c : Ctx) (s : List Byte) : (update c s).1 = xorKeystream c.rk c.nr.toNat c.j0 c.n s := by
  induction s generalizing c with
  | nil => rfl
  | cons b s ih =>
    obtain ⟨y, part, h⟩ := updateByte_ctx c b
    rw [update_cons, xorKeystream, updateByte_out, ih, h]

/-! ### Blocks of a sequence -/

theorem blocksOf_append {m : Nat} {d : List Byte} (h : 16 * m ≤ d.length) (e : List Byte) :
    blocksOf m (d ++ e) = blocksOf m d := by
  induction m generalizing d with
  | zero => rfl
  | succ m ih =>
    rw [blocksOf, blocksOf, List.take_append_of_le_length (by omega), List.drop_append_of_le_length (by omega),
      ih (by rw [List.length_drop]; omega)]

theorem blocksOf_succ (m : Nat) (d : List Byte) :
    blocksOf (m + 1) d = blocksOf m d ++ [bytesBlock ((d.drop (16 * m)).take 16)] := by
  induction m generalizing d with
  | zero => rfl
  | succ m ih => rw [blocksOf, ih, List.drop_drop, blocksOf, Nat.mul_succ, Nat.add_comm]; rfl

theorem ghashBlocks_concat (h y x : Block) (d : List Block) :
    ghashBlocks h y (d ++ [x]) = mulH (ghashBlocks h y d ^^^ x) h := by
  simp [ghashBlocks, List.foldl_append]

/-! ### What a context has taken in -/

/-- The bytes of an incomplete last block. -/
def lastBytes (s : List Byte) : List Byte := s.drop (16 * (s.length / 16))

theorem lastBytes_length (s : List Byte) : (lastBytes s).length = s.length % 16 := by
  rw [lastBytes, List.length_drop]
  omega

/-- `Y` is GHASH of the whole blocks of the ciphertext so far, `PART` the incomplete one, and `N` counts it. -/
def Absorbed (c : Ctx) (s : List Byte) : Prop :=
  c.n = s.length ∧ c.y = ghashBlocks c.h 0 (blocksOf (s.length / 16) s) ∧
    c.part = bytesBlock (lastBytes s ++ zeroBytes (16 - s.length % 16))

/-- `PART` with one byte more. -/
theorem Absorbed.setBlockByte_part {c : Ctx} {s : List Byte} (h : Absorbed c s) (b : Byte) :
    setBlockByte c.part (c.n % 16) b = bytesBlock ((lastBytes s ++ [b]) ++ zeroBytes (15 - s.length % 16)) := by
  obtain ⟨hn, -, hpart⟩ := h
  have hlen := lastBytes_length s
  rw [hpart, hn, ← hlen]
  exact setBlockByte_bytesBlock _ b (by omega)

theorem Absorbed.updateByte {c : Ctx} {s : List Byte} (h : Absorbed c s) (b : Byte) :
    Absorbed (updateByte c b).2 (s ++ [cipherByte c b]) := by
  have hpart := h.setBlockByte_part (cipherByte c b)
  obtain ⟨hn, hy, -⟩ := h
  have hlen : (s ++ [cipherByte c b]).length = s.length + 1 := by simp
  have hblocks : blocksOf (s.length / 16) (s ++ [cipherByte c b]) = blocksOf (s.length / 16) s :=
    blocksOf_append (Nat.mul_div_le ..) _
  have hdrop : (s ++ [cipherByte c b]).drop (16 * (s.length / 16)) = lastBytes s ++ [cipherByte c b] :=
    List.drop_append_of_le_length (Nat.mul_div_le ..)
  by_cases hlast : c.n % 16 = 15
  · have hs : s.length % 16 = 15 := hn ▸ hlast
    have hdiv : (s.length + 1) / 16 = s.length / 16 + 1 := by omega
    have htake : (lastBytes s ++ [cipherByte c b]).take 16 = lastBytes s ++ [cipherByte c b] :=
      List.take_of_length_le (by simp [lastBytes_length, hs])
    rw [hlast, hs] at hpart
    rw [updateByte_of_last hlast, hpart]
    refine ⟨by rw [hlen, hn], ?_, ?_⟩
    · rw [hlen, hdiv, blocksOf_succ, ghashBlocks_concat, hblocks, hdrop, htake, hy]
      simp [zeroBytes]
    · have hnone : lastBytes (s ++ [cipherByte c b]) = [] :=
        List.eq_nil_of_length_eq_zero (by rw [lastBytes_length, hlen]; omega)
      have hmod : (s.length + 1) % 16 = 0 := by omega
      rw [hnone, hlen, hmod]
      exact bytesBlock_zeroBytes.symm
  · have hdiv : (s.length + 1) / 16 = s.length / 16 := by omega
    have hmod : 16 - (s.length + 1) % 16 = 15 - s.length % 16 := by omega
    rw [updateByte_of_not_last hlast, hpart]
    refine ⟨by rw [hlen, hn], ?_, ?_⟩
    · rw [hlen, hdiv, hblocks, hy]
    · have hopen : lastBytes (s ++ [cipherByte c b]) = lastBytes s ++ [cipherByte c b] := by
        rw [lastBytes, hlen, hdiv, hdrop]
      rw [hlen, hmod, hopen]

/-- The ciphertext that `Update` takes in with a sequence: its output when it encrypts, its input when it decrypts. -/
def cipherBytes (c : Ctx) (s : List Byte) : List Byte := if c.dir = .enc then (update c s).1 else s

theorem cipherBytes_concat (c : Ctx) (s : List Byte) (b : Byte) :
    cipherBytes c (s ++ [b]) = cipherBytes c s ++ [cipherByte (update c s).2 b] := by
  obtain ⟨y, part, h⟩ := update_ctx c s
  have hd : (update c s).2.dir = c.dir := by rw [h]
  by_cases he : c.dir = .enc
  · simp [cipherBytes, cipherByte, hd, he, update_concat]
  · simp [cipherBytes, cipherByte, hd, he]

theorem absorbed_update {c : Ctx} (hn : c.n = 0) (hy : c.y = 0) (hp : c.part = 0) (s : List Byte) :
    Absorbed (update c s).2 (cipherBytes c s) := by
  induction s using List.reverseRecOn with
  | nil =>
    have hnil : cipherBytes c [] = [] := by simp [cipherBytes]
    rw [hnil, update_nil]
    exact ⟨hn, hy, hp.trans bytesBlock_zeroBytes.symm⟩
  | append_singleton s b ih =>
    rw [cipherBytes_concat, update_concat]
    exact ih.updateByte b

/-! ### The tag -/

theorem pad16_of_whole {s : List Byte} (h : s.length % 16 = 0) : pad16 s = s := by simp [pad16, h, zeroBytes]

/-- GHASH of the padded ciphertext and a length block, from what a context has taken in. -/
theorem Absorbed.ghash_pad16 {c : Ctx} {s : List Byte} (h : Absorbed c s) {l : List Byte} (hl : l.length = 16) :
    ghash c.h (pad16 s ++ l) =
      mulH ((if c.n % 16 = 0 then c.y else mulH (c.y ^^^ c.part) c.h) ^^^ bytesBlock l) c.h := by
  obtain ⟨hn, hy, hp⟩ := h
  have hblocks {k : Nat} (hk : (pad16 s).length = 16 * k) :
      ghash c.h (pad16 s ++ l) = mulH (ghashBlocks c.h 0 (blocksOf k (pad16 s)) ^^^ bytesBlock l) c.h := by
    have hlen : (pad16 s ++ l).length / 16 = k + 1 := by rw [List.length_append, hk, hl]; omega
    rw [ghash, hlen, blocksOf_succ, ghashBlocks_concat, blocksOf_append hk.ge, ← hk, List.drop_left,
      List.take_of_length_le hl.le]
  rw [hn]
  by_cases hmod : s.length % 16 = 0
  · have hk : (pad16 s).length = 16 * (s.length / 16) := by rw [pad16_of_whole hmod]; omega
    rw [hblocks hk, pad16_of_whole hmod, if_pos hmod, hy]
  · have hpad : pad16 s = s ++ zeroBytes (16 - s.length % 16) := by
      rw [pad16, Nat.mod_eq_of_lt (by omega : 16 - s.length % 16 < 16)]
    have hk : (pad16 s).length = 16 * (s.length / 16 + 1) := by rw [hpad, List.length_append, zeroBytes_length]; omega
    have hlast : ((pad16 s).drop (16 * (s.length / 16))).take 16 = lastBytes s ++ zeroBytes (16 - s.length % 16) := by
      rw [hpad, List.drop_append_of_le_length (Nat.mul_div_le ..), List.take_of_length_le]
      · rfl
      · rw [List.length_append, zeroBytes_length, List.length_drop]
        omega
    rw [hblocks hk, blocksOf_succ, ghashBlocks_concat, hlast, hpad, blocksOf_append (Nat.mul_div_le ..), if_neg hmod,
      hy, hp]

theorem Absorbed.finalTag {c : Ctx} {s : List Byte} (h : Absorbed c s) :
    finalTag c = gcmTag c.rk c.nr.toNat c.j0 c.h s := by
  have hn : c.n = s.length := h.1
  have hg := h.ghash_pad16 (l := beBytes 8 0 ++ beBytes 8 (8 * s.length)) (by simp)
  rw [gcmTag, List.append_assoc, hg, Machine.finalTag, lengthBlock, hn]

/-! ### The counter -/

theorem ctrBlock_toNat (j0 : Block) (j : Nat) :
    (ctrBlock j0 j).toNat = j0.toNat / 2 ^ 32 * 2 ^ 32 + (j0.toNat % 2 ^ 32 + 1 + j) % 2 ^ 32 := by
  have hj0 := j0.isLt
  rw [ctrBlock, BitVec.toNat_ofNat]
  omega

/-! ### The context of `E.INIT` -/

/-- What the context of `E.INIT` computes on a message, in the terms of R267. -/
theorem update_initCtx {c : Ctx} {d : Dir} {key iv : List Byte} (hk : KeyLength key.length) (p : List Byte) :
    (update (initCtx c d key iv) p).1 = xorKeystream (keyExpansion key) (roundsOf key.length)
      (deriveJ0 (aes (keyExpansion key) (roundsOf key.length) 0) iv) 0 p ∧
    finalTag (update (initCtx c d key iv) p).2 = gcmTag (keyExpansion key) (roundsOf key.length)
      (deriveJ0 (aes (keyExpansion key) (roundsOf key.length) 0) iv) (aes (keyExpansion key) (roundsOf key.length) 0)
      (cipherBytes (initCtx c d key iv) p) := by
  have haes (x : Block) : aes (initCtx c d key iv).rk (roundsOf key.length) x =
      aes (keyExpansion key) (roundsOf key.length) x := by rw [initCtx_rk, aes_append (keyExpansion_length key)]
  have hh : (initCtx c d key iv).h = aes (keyExpansion key) (roundsOf key.length) 0 := haes 0
  have hj : (initCtx c d key iv).j0 = deriveJ0 (aes (keyExpansion key) (roundsOf key.length) 0) iv :=
    congrArg (deriveJ0 · iv) hh
  obtain ⟨y, part, hctx⟩ := update_ctx (initCtx c d key iv) p
  constructor
  · rw [update_out, initCtx_nr hk, hj, initCtx_rk, xorKeystream_append (keyExpansion_length key)]
    rfl
  · have htag := (absorbed_update (c := initCtx c d key iv) rfl rfl rfl p).finalTag
    rw [htag, hctx]
    simp only [gcmTag, initCtx_nr hk, haes, hh, hj]

end Sys2Proof.Machine
end

section
/-! The obligations on the streaming engine (R267) and on the counter blocks (R266). -/

namespace Sys2Proof.Certificates

open Sys2Proof.Machine

/-- Settles O56: the output is the keystream's, and the tag is over the output when encrypting, over the input when
decrypting. -/
theorem streamingIsOneShotGcm : Obligations.StreamingIsOneShotGcm := by
  intro c key iv p hk
  constructor
  · obtain ⟨hout, htag⟩ := update_initCtx (c := c) (d := .enc) (iv := iv) hk p
    have hcipher : cipherBytes (initCtx c .enc key iv) p = (update (initCtx c .enc key iv) p).1 := if_pos rfl
    rw [htag, hcipher, hout, gcmEncrypt]
  · obtain ⟨hout, htag⟩ := update_initCtx (c := c) (d := .dec) (iv := iv) hk p
    have hcipher : cipherBytes (initCtx c .dec key iv) p = p := if_neg (by decide : Dir.dec ≠ .enc)
    rw [htag, hcipher, hout, gcmDecrypt]

/-- Settles O57: the last 4 bytes count modulo `2^32`, and `MSG_MAX` keeps the count from coming round to `J0`. -/
theorem counterBlocksDistinct : Obligations.CounterBlocksDistinct := by
  intro j0 i j hi hj
  have hni := ctrBlock_toNat j0 i
  have hnj := ctrBlock_toNat j0 j
  refine ⟨fun h => ?same, fun h => ?preCounter, by omega⟩
  case same =>
    rw [h] at hni
    omega
  case preCounter =>
    rw [h] at hni
    omega

end Sys2Proof.Certificates
end

section
/-! SUPPORT. The engine operations: what each answers, by the outcome of its checks in the order of R295, and everything
it can answer (R120 to R136). -/

namespace Sys2Proof.Machine

open Sys2Proof.Safety

theorem aborted_of_exec_eq_raise {i : Instr} {c : Code} {s s' : State} (h : exec i s = raise c s') :
    ∃ t, exec i s = .next t ∧ Aborted c s' t := ⟨abort c s', h, aborted_abort c s'⟩

/-! ### The oracle -/

/-- The state once the engine has been asked, `q` being the answers still to come. -/
def State.asked (s : State) (q : List EngineAnswer) : State := s.setEnv { s.env with engine := q }

theorem askEngine_cons {s : State} {a : EngineAnswer} {rest : List EngineAnswer} (h : s.env.engine = a :: rest) :
    askEngine s = (a, s.asked rest) := by
  simp [askEngine, h, State.asked]

/-- Asking uses up an answer at most. -/
theorem askEngine_eq (s : State) : ∃ a q, askEngine s = (a, s.asked q) := by
  rcases askEngine_cases s with ⟨-, h⟩ | ⟨a, rest, -, h⟩
  · exact ⟨_, s.env.engine, h⟩
  · exact ⟨a, rest, h⟩

/-! ### `E.INIT` -/

section Init

variable {d : Dir} {k : KSel} {n klen : Nat} {s s' : State} {a : EngineAnswer}

theorem exec_eInit_of_valid (hv : s.ctx.valid = true) : exec (.eInit d k n) s = violate s := by
  simp [exec, execEInit, hv]

theorem exec_eInit_of_key_unsupported (hv : s.ctx.valid = false) (hk : supportedKey s.params k = none) :
    exec (.eInit d k n) s = raise .engineInitError s := by
  simp [exec, execEInit, hv, hk]

theorem exec_eInit_of_iv_unsupported (hv : s.ctx.valid = false) (hi : supportedIv s.params n = false) :
    exec (.eInit d k n) s = raise .engineInitError s := by
  cases hk : supportedKey s.params k <;> simp [exec, execEInit, hv, hk, hi]

theorem exec_eInit_of_failed (hv : s.ctx.valid = false) (hk : supportedKey s.params k = some klen)
    (hi : supportedIv s.params n = true) (ha : askEngine s = (.failed, s')) :
    exec (.eInit d k n) s = raise .engineInitError s' := by
  simp [exec, execEInit, hv, hk, hi, ha]

theorem exec_eInit_of_answered (hv : s.ctx.valid = false) (hk : supportedKey s.params k = some klen)
    (hi : supportedIv s.params n = true) (ha : askEngine s = (a, s')) (hf : a ≠ .failed) :
    exec (.eInit d k n) s = .next (bindEngine d klen n s') := by
  cases a <;> simp_all [exec, execEInit]

theorem supportedKey_eq_some {p : Params} {z : KeySize} (hk : kselSize k = some z) (hz : z ∈ p.keySizes) :
    supportedKey p k = some (keyLen z) := by
  simp [supportedKey, hk, hz]

theorem supportedKey_eq_none {p : Params} (h : ∀ z, kselSize k = some z → z ∉ p.keySizes) :
    supportedKey p k = none := by
  cases hk : kselSize k with
  | none => simp [supportedKey, hk]
  | some z => simp [supportedKey, hk, h z hk]

theorem keyLength_of_supportedKey {p : Params} (h : supportedKey p k = some klen) : KeyLength klen := by
  cases hk : kselSize k with
  | none => simp [supportedKey, hk] at h
  | some z =>
    by_cases hz : z ∈ p.keySizes
    · have hlen : keyLen z = klen := by simpa [supportedKey, hk, hz] using h
      exact hlen ▸ keyLength_keyLen z
    · simp [supportedKey, hk, hz] at h

theorem supportedIv_eq_true_iff {p : Params} : supportedIv p n = true ↔ 1 ≤ n ∧ n ≤ p.ivMax := by
  simp [supportedIv]

/-- Everything `E.INIT` can answer: a contract violation when a context exists, else `EngineInitError` or a context. -/
theorem eInit_next {t : State} (h : exec (.eInit d k n) s = .next t) :
    (s.ctx.valid = true ∧ t = abort .contractViolation s) ∨
    ∃ q, t = abort .engineInitError (s.asked q) ∨
      ∃ klen, KeyLength klen ∧ t = bindEngine d klen n (s.asked q) := by
  cases hv : s.ctx.valid with
  | true =>
    rw [exec_eInit_of_valid hv] at h
    exact .inl ⟨rfl, violate_next h⟩
  | false =>
    right
    cases hk : supportedKey s.params k with
    | none =>
      rw [exec_eInit_of_key_unsupported hv hk] at h
      exact ⟨s.env.engine, .inl (raise_next h)⟩
    | some klen =>
      cases hi : supportedIv s.params n with
      | false =>
        rw [exec_eInit_of_iv_unsupported hv hi] at h
        exact ⟨s.env.engine, .inl (raise_next h)⟩
      | true =>
        obtain ⟨a, q, ha⟩ := askEngine_eq s
        by_cases hf : a = .failed
        · rw [exec_eInit_of_failed hv hk hi (hf ▸ ha)] at h
          exact ⟨q, .inl (raise_next h)⟩
        · rw [exec_eInit_of_answered hv hk hi ha hf] at h
          cases h
          exact ⟨q, .inr ⟨klen, keyLength_of_supportedKey hk, rfl⟩⟩

end Init

/-! ### `E.UPDATE` -/

@[simp] theorem resized_length (n : Nat) (o : List Byte) : (resized n o).length = n := by
  rw [resized, List.length_append, List.length_take, zeroBytes_length]
  omega

section Update

variable {dst src : BufId} {s s' : State} {a : EngineAnswer}

theorem exec_eUpdate_of_not_contract (h : ¬ updateContract dst src s) : exec (.eUpdate dst src) s = violate s :=
  if_pos h

theorem exec_eUpdate_of_tooLong (h : updateContract dst src s) (hn : Config.msgMax < s.ctx.n + (s.buf src).length) :
    exec (.eUpdate dst src) s = .refused .messageTooLong := by
  rw [exec, execEUpdate, if_neg (not_not.mpr h), if_pos hn]

theorem exec_eUpdate_of_failed (h : updateContract dst src s) (hn : s.ctx.n + (s.buf src).length ≤ Config.msgMax)
    (ha : askEngine s = (.failed, s')) : exec (.eUpdate dst src) s = raise .engineTransformError s' := by
  rw [exec, execEUpdate, if_neg (not_not.mpr h), if_neg (Nat.not_lt.mpr hn), ha]

/-- The engine's answer is written when it has the length of the source; a wrong length aborts (R126). -/
theorem exec_eUpdate_of_answered (h : updateContract dst src s) (hn : s.ctx.n + (s.buf src).length ≤ Config.msgMax)
    (ha : askEngine s = (a, s')) (hf : a ≠ .failed) :
    exec (.eUpdate dst src) s =
      if (updateOutput a (update s'.ctx (s'.buf src)).1).length ≠ (s'.buf src).length then
        raise .transformSizeMismatch s'
      else .next ((s'.setCtx (update s'.ctx (s'.buf src)).2).setBuf dst
        (updateOutput a (update s'.ctx (s'.buf src)).1)) := by
  cases a with
  | failed => exact absurd rfl hf
  | sound => rw [exec, execEUpdate, if_neg (not_not.mpr h), if_neg (Nat.not_lt.mpr hn), ha]
  | misSized m => rw [exec, execEUpdate, if_neg (not_not.mpr h), if_neg (Nat.not_lt.mpr hn), ha]

/-- Everything `E.UPDATE` can answer, under its contract and not. -/
theorem eUpdate_next {t : State} (h : exec (.eUpdate dst src) s = .next t) :
    (¬ updateContract dst src s ∧ t = abort .contractViolation s) ∨
    updateContract dst src s ∧ s.ctx.n + (s.buf src).length ≤ Config.msgMax ∧ ∃ q,
      (t = abort .engineTransformError (s.asked q) ∨ t = abort .transformSizeMismatch (s.asked q)) ∨
      ∃ o, o.length = (s.buf src).length ∧ t = ((s.asked q).setCtx (update s.ctx (s.buf src)).2).setBuf dst o := by
  by_cases hc : updateContract dst src s
  · right
    by_cases hn : Config.msgMax < s.ctx.n + (s.buf src).length
    · rw [exec_eUpdate_of_tooLong hc hn] at h
      cases h
    · refine ⟨hc, Nat.not_lt.mp hn, ?_⟩
      obtain ⟨a, q, ha⟩ := askEngine_eq s
      refine ⟨q, ?_⟩
      by_cases hf : a = .failed
      · rw [exec_eUpdate_of_failed hc (Nat.not_lt.mp hn) (hf ▸ ha)] at h
        exact .inl (.inl (raise_next h))
      · rw [exec_eUpdate_of_answered hc (Nat.not_lt.mp hn) ha hf] at h
        split at h
        next => exact .inl (.inr (raise_next h))
        next hlen =>
          cases h
          exact .inr ⟨_, not_not.mp hlen, rfl⟩
  · rw [exec_eUpdate_of_not_contract hc] at h
    exact .inl ⟨hc, violate_next h⟩

end Update

/-! ### `E.FINALIZE_ENC`, `E.SET_TAG`, `E.FINALIZE_DEC`, `E.RELEASE` -/

section Finalize

variable {src : BufId} {s s' : State} {a : EngineAnswer}

/-- What `E.FINALIZE_ENC` makes of the state: the tag in `ETAG`, the context finalized. -/
def finalizedEnc (s : State) : State := (s.setEtag (finalTag s.ctx)).setCtx { s.ctx with fin := true }

/-- What `E.FINALIZE_DEC` makes of the state: `AUTH` written, the context finalized. -/
def finalizedDec (s : State) : State :=
  (s.setAuth (decide (finalTag s.ctx = s.ctx.xtag))).setCtx { s.ctx with fin := true }

/-- What `E.SET_TAG` makes of the state. -/
def tagSet (src : BufId) (s : State) : State := s.setCtx { s.ctx with xtag := bytesBlock (s.buf src), xset := true }

theorem exec_eFinalizeEnc_of_not_contract (h : ¬ finalizeEncContract s) : exec .eFinalizeEnc s = violate s := if_pos h

theorem exec_eFinalizeEnc_of_failed (h : finalizeEncContract s) (ha : askEngine s = (.failed, s')) :
    exec .eFinalizeEnc s = raise .engineTransformError s' := by
  rw [exec, execEFinalizeEnc, if_neg (not_not.mpr h), ha]

theorem exec_eFinalizeEnc_of_answered (h : finalizeEncContract s) (ha : askEngine s = (a, s')) (hf : a ≠ .failed) :
    exec .eFinalizeEnc s =
      if trailingBytes a ≠ 0 then raise .transformSizeMismatch s' else .next (finalizedEnc s') := by
  cases a with
  | failed => exact absurd rfl hf
  | sound => rw [exec, execEFinalizeEnc, if_neg (not_not.mpr h), ha, finalizedEnc]
  | misSized m => rw [exec, execEFinalizeEnc, if_neg (not_not.mpr h), ha, finalizedEnc]

theorem exec_eSetTag_of_not_contract (h : ¬ setTagContract src s) : exec (.eSetTag src) s = violate s := if_pos h

theorem exec_eSetTag_of_contract (h : setTagContract src s) : exec (.eSetTag src) s = .next (tagSet src s) :=
  if_neg (not_not.mpr h)

theorem exec_eFinalizeDec_of_not_contract (h : ¬ finalizeDecContract s) : exec .eFinalizeDec s = violate s := if_pos h

theorem exec_eFinalizeDec_of_failed (h : finalizeDecContract s) (ha : askEngine s = (.failed, s')) :
    exec .eFinalizeDec s = raise .engineTransformError s' := by
  rw [exec, execEFinalizeDec, if_neg (not_not.mpr h), ha]

theorem exec_eFinalizeDec_of_answered (h : finalizeDecContract s) (ha : askEngine s = (a, s')) (hf : a ≠ .failed) :
    exec .eFinalizeDec s = .next (finalizedDec s') := by
  cases a with
  | failed => exact absurd rfl hf
  | sound => rw [exec, execEFinalizeDec, if_neg (not_not.mpr h), ha, finalizedDec]
  | misSized m => rw [exec, execEFinalizeDec, if_neg (not_not.mpr h), ha, finalizedDec]

theorem exec_eRelease (s : State) : exec .eRelease s = .next s.scrub := rfl

theorem eFinalizeEnc_next {t : State} (h : exec .eFinalizeEnc s = .next t) :
    (¬ finalizeEncContract s ∧ t = abort .contractViolation s) ∨
    finalizeEncContract s ∧ ∃ q, (t = abort .engineTransformError (s.asked q) ∨
      t = abort .transformSizeMismatch (s.asked q)) ∨ t = finalizedEnc (s.asked q) := by
  by_cases hc : finalizeEncContract s
  · obtain ⟨a, q, ha⟩ := askEngine_eq s
    refine .inr ⟨hc, q, ?_⟩
    by_cases hf : a = .failed
    · rw [exec_eFinalizeEnc_of_failed hc (hf ▸ ha)] at h
      exact .inl (.inl (raise_next h))
    · rw [exec_eFinalizeEnc_of_answered hc ha hf] at h
      split at h
      next => exact .inl (.inr (raise_next h))
      next =>
        cases h
        exact .inr rfl
  · rw [exec_eFinalizeEnc_of_not_contract hc] at h
    exact .inl ⟨hc, violate_next h⟩

theorem eSetTag_next {t : State} (h : exec (.eSetTag src) s = .next t) :
    (¬ setTagContract src s ∧ t = abort .contractViolation s) ∨ (setTagContract src s ∧ t = tagSet src s) := by
  by_cases hc : setTagContract src s
  · rw [exec_eSetTag_of_contract hc] at h
    cases h
    exact .inr ⟨hc, rfl⟩
  · rw [exec_eSetTag_of_not_contract hc] at h
    exact .inl ⟨hc, violate_next h⟩

theorem eFinalizeDec_next {t : State} (h : exec .eFinalizeDec s = .next t) :
    (¬ finalizeDecContract s ∧ t = abort .contractViolation s) ∨
    finalizeDecContract s ∧ ∃ q, t = abort .engineTransformError (s.asked q) ∨ t = finalizedDec (s.asked q) := by
  by_cases hc : finalizeDecContract s
  · obtain ⟨a, q, ha⟩ := askEngine_eq s
    refine .inr ⟨hc, q, ?_⟩
    by_cases hf : a = .failed
    · rw [exec_eFinalizeDec_of_failed hc (hf ▸ ha)] at h
      exact .inl (raise_next h)
    · rw [exec_eFinalizeDec_of_answered hc ha hf] at h
      cases h
      exact .inr rfl
  · rw [exec_eFinalizeDec_of_not_contract hc] at h
    exact .inl ⟨hc, violate_next h⟩

end Finalize

end Sys2Proof.Machine
end

section
/-! The obligations on the engine operations (R120 to R133). -/

namespace Sys2Proof.Certificates

open Sys2Proof.Machine Sys2Proof.Safety

/-- Settles O23: with supported lengths and a quiet oracle the engine is bound; the key schedule's length says which
entries of `RK` are new. -/
theorem eInitBindsEngine : Obligations.EInitBindsEngine := by
  intro d k z n s hv hq hk hz h1 hmax
  have hexec := exec_eInit_of_answered (d := d) hv (supportedKey_eq_some hk hz)
    (supportedIv_eq_true_iff.mpr ⟨h1, hmax⟩) (askEngine_quiet hq) nofun
  have hslice : (Memory.slice s.key 0 (keyLen z)).length = keyLen z := Memory.slice_length ..
  have hkey : KeyLength (Memory.slice s.key 0 (keyLen z)).length := hslice.symm ▸ keyLength_keyLen z
  have hlen := keyExpansion_length (Memory.slice s.key 0 (keyLen z))
  refine ⟨_, hexec, rfl, fun _ => ⟨rfl, rfl⟩, rfl, rfl, ?nr, ?rk, ?rest, ?h, rfl, rfl, rfl, rfl, rfl, rfl, rfl⟩
  all_goals simp only [bindEngine, State.setCtx_ctx, initCtx_nr hkey]
  case nr => rw [roundsOf, hslice]
  case rk => rw [initCtx_rk, ← hlen, List.take_left]
  case rest => rw [initCtx_rk, ← hlen, List.drop_left]
  case h => rfl

/-- Settles O24: either check of R122 fails. -/
theorem eInitRejectsUnsupported : Obligations.EInitRejectsUnsupported := by
  intro d k n s hv h
  apply aborted_of_exec_eq_raise
  rcases h with hk | hiv
  · exact exec_eInit_of_key_unsupported hv (supportedKey_eq_none hk)
  · have hi : ¬ supportedIv s.params n = true := by rw [supportedIv_eq_true_iff]; omega
    exact exec_eInit_of_iv_unsupported hv (Bool.eq_false_iff.mpr hi)

/-- Settles O25: under the contract a sound engine's output has the source's length and is written. -/
theorem eUpdateTransforms : Obligations.EUpdateTransforms := by
  intro dst src s hv hx hf hcap hne hn hq
  have hc : updateContract dst src s := ⟨hv, hx, hf, hcap, hne⟩
  have hlen := update_length s.ctx (s.buf src)
  have hexec := (exec_eUpdate_of_answered hc hn (askEngine_quiet hq) nofun).trans (if_neg (not_not.mpr hlen))
  exact ⟨_, hexec, State.setBuf_buf_self .., (congrArg List.length (State.setBuf_buf_self ..)).trans hlen, rfl,
    update_n .., update_frame .., fun _ hr => State.setBuf_buf_ne _ _ hr, fun _ => ⟨rfl, rfl⟩, rfl⟩

/-- Settles O26. -/
theorem eUpdateRefusesPastMsgMax : Obligations.EUpdateRefusesPastMsgMax := fun _ _ _ hv hx hf hcap hne hn =>
  exec_eUpdate_of_tooLong ⟨hv, hx, hf, hcap, hne⟩ hn

/-- Settles O27: a quiet engine has no trailing bytes, and the tag is R130's. -/
theorem eFinalizeEncMakesTag : Obligations.EFinalizeEncMakesTag := by
  intro s hv hd hf hq
  have hexec := (exec_eFinalizeEnc_of_answered ⟨hv, hd, hf⟩ (askEngine_quiet hq) nofun).trans
    (if_neg (not_not.mpr rfl))
  exact ⟨_, hexec, rfl, rfl, fun _ => ⟨rfl, rfl⟩, rfl⟩

/-- Settles O28: the bytes of the block of 16 bytes are those bytes. -/
theorem eSetTagSetsExpectedTag : Obligations.ESetTagSetsExpectedTag := fun _ _ hv hd hf hlen =>
  ⟨_, exec_eSetTag_of_contract ⟨hv, hd, hf, hlen⟩, blockBytes_bytesBlock hlen, rfl, rfl,
    fun _ => ⟨rfl, rfl⟩, rfl⟩

/-- Settles O29: `AUTH` is the decision of the comparison. -/
theorem eFinalizeDecVerifies : Obligations.EFinalizeDecVerifies := fun _ hv hd hx hf hq =>
  ⟨_, exec_eFinalizeDec_of_answered ⟨hv, hd, hx, hf⟩ (askEngine_quiet hq) nofun, decide_eq_true_iff, rfl,
    fun _ => ⟨rfl, rfl⟩, rfl⟩

/-- Settles O30: `E.RELEASE` is the scrub of `ctx` and `ETAG`. -/
theorem eReleaseScrubs : Obligations.EReleaseScrubs := by
  intro s
  have hrk : ∀ k ∈ Ctx.zero.rk, k = 0 := fun k hk => List.eq_of_mem_replicate hk
  exact ⟨_, exec_eRelease s, rfl, rfl, rfl, hrk, fun _ => ⟨rfl, rfl⟩, rfl⟩

/-- Settles O31: each disjunct denies one conjunct of the operation's contract. -/
theorem engineOrderViolations : Obligations.EngineOrderViolations := by
  intro s
  have hdir : ∀ d : Dir, d = .enc → d ≠ .dec := by rintro _ rfl; decide
  refine ⟨fun d k n hv => violates_of_exec_eq_violate (exec_eInit_of_valid hv),
    fun dst src h => violates_of_exec_eq_violate (exec_eUpdate_of_not_contract ?update),
    fun h => violates_of_exec_eq_violate (exec_eFinalizeEnc_of_not_contract ?finalizeEnc),
    fun src h => violates_of_exec_eq_violate (exec_eSetTag_of_not_contract ?setTag),
    fun h => violates_of_exec_eq_violate (exec_eFinalizeDec_of_not_contract ?finalizeDec)⟩
  case update =>
    rintro ⟨hv, hx, hf, hcap, hne⟩
    rcases h with h | h | h | h | h
    · simp [h] at hv
    · simp [h] at hx
    · simp [h] at hf
    · omega
    · exact hne h
  case finalizeEnc =>
    rintro ⟨hv, hd, hf⟩
    rcases h with h | h | h
    · simp [h] at hv
    · simp [h] at hd
    · simp [h] at hf
  case setTag =>
    rintro ⟨hv, hd, hf, hlen⟩
    rcases h with h | h | h | h
    · simp [h] at hv
    · exact hdir _ h hd
    · simp [h] at hf
    · exact h hlen
  case finalizeDec =>
    rintro ⟨hv, hd, hx, hf⟩
    rcases h with h | h | h | h
    · simp [h] at hv
    · exact hdir _ h hd
    · simp [h] at hx
    · simp [h] at hf

/-- Settles O32: the answer `failed` is asked for once the other checks have passed. -/
theorem engineFaultAborts : Obligations.EngineFaultAborts := by
  intro i s rest hq
  have hask := askEngine_cons hq
  refine ⟨fun d k z n hi hv hk hz h1 hmax => ?_, fun dst src hi hc hn => ?_, fun h => ?_⟩
  · subst hi
    exact aborted_of_exec_eq_raise
      (exec_eInit_of_failed hv (supportedKey_eq_some hk hz) (supportedIv_eq_true_iff.mpr ⟨h1, hmax⟩) hask)
  · subst hi
    exact aborted_of_exec_eq_raise (exec_eUpdate_of_failed hc hn hask)
  · rcases h with ⟨rfl, hc⟩ | ⟨rfl, hc⟩
    · exact aborted_of_exec_eq_raise (exec_eFinalizeEnc_of_failed hc hask)
    · exact aborted_of_exec_eq_raise (exec_eFinalizeDec_of_failed hc hask)

/-- Settles O33: a wrong length is refused after `ENGINE_FAULT` has said no. -/
theorem wrongSizeAborts : Obligations.WrongSizeAborts := by
  intro i m s rest hq h
  have hask := askEngine_cons hq
  apply aborted_of_exec_eq_raise
  rcases h with ⟨dst, src, rfl, hc, hn, hm⟩ | ⟨rfl, hc, hm⟩
  · have hlen : (updateOutput (.misSized m) (update s.ctx (s.buf src)).1).length = m := resized_length m _
    exact (exec_eUpdate_of_answered hc hn hask nofun).trans (if_pos (hlen.trans_ne hm))
  · exact (exec_eFinalizeEnc_of_answered hc hask nofun).trans (if_pos hm)

end Sys2Proof.Certificates
end

section
/-! SUPPORT. The other buffer operations and the stream operations: what each answers, and everything it can answer
(R141 to R166). -/

namespace Sys2Proof.Machine

open Sys2Proof.Safety

/-! ### Buffer operations -/

section Buffers

variable {dst src srca srcb : BufId} {n : Nat} {s t : State}

theorem exec_bEmpty (dst : BufId) (s : State) : exec (.bEmpty dst) s = .next (s.setBuf dst []) := rfl

theorem exec_bFromArray (dst : BufId) (s : State) : exec (.bFromArray dst) s =
    if cap s.params dst = Config.tagLen then .next (s.setBuf dst (blockBytes s.etag)) else violate s := rfl

/-- The value `B.RESIZE` leaves: the first bytes, then the free ones (R143). -/
def resizedBuf (s : State) (dst : BufId) (n : Nat) : List Byte :=
  (s.buf dst).take n ++ freeBytes s (n - (s.buf dst).length)

theorem exec_bResize (dst : BufId) (n : Nat) (s : State) : exec (.bResize dst n) s =
    if n ≤ cap s.params dst then
      .next ((s.setBuf dst (resizedBuf s dst n)).drawn (n - (s.buf dst).length))
    else violate s := rfl

theorem resizedBuf_length (s : State) (dst : BufId) (n : Nat) : (resizedBuf s dst n).length = n := by
  simp only [resizedBuf, freeBytes, List.length_append, List.length_take, List.length_map, List.length_range]
  omega

theorem resizedBuf_take (s : State) (dst : BufId) (n : Nat) :
    (resizedBuf s dst n).take (s.buf dst).length = (s.buf dst).take n := by
  rw [resizedBuf]
  by_cases h : n ≤ (s.buf dst).length
  · have hnone : freeBytes s (n - (s.buf dst).length) = [] := by simp [freeBytes, Nat.sub_eq_zero_of_le h]
    rw [hnone, List.append_nil, List.take_of_length_le (by rw [List.length_take]; omega)]
  · rw [List.take_of_length_le (Nat.le_of_not_le h), List.take_left]

/-- Everything a guarded assignment can answer. -/
theorem guarded_assign_next {v : List Byte} {p : Prop} [Decidable p]
    (h : (if p then assign dst v s else violate s) = .next t) :
    t = abort .contractViolation s ∨ (v.length ≤ cap s.params dst ∧ t = s.setBuf dst v) := by
  split at h
  · exact (assign_next h).symm.imp And.right id
  · exact .inl (violate_next h)

end Buffers

/-! ### `S.READ` -/

section Read

variable {dst : BufId} {n : Nat} {s s' t : State} {bytes : List Byte} {st : RdStatus}

/-- The count of an `S.READ` is at least 1 and within the capacity (R160). -/
abbrev readContract (dst : BufId) (n : Nat) (s : State) : Prop := 1 ≤ n ∧ n ≤ cap s.params dst

theorem exec_sRead_of_not_contract (h : ¬ readContract dst n s) : exec (.sRead dst n) s = violate s := if_neg h

theorem exec_sRead_of_waiting (h : readContract dst n s) (hm : memRead n s = .waiting s') :
    exec (.sRead dst n) s = .next (s'.reissue (.sRead dst n)) := by
  rw [exec, execSRead, if_pos h, hm]

theorem exec_sRead_of_answered (h : readContract dst n s) (hm : memRead n s = .answered (bytes, st) s') :
    exec (.sRead dst n) s = finishRead dst n bytes st s' := by
  rw [exec, execSRead, if_pos h, hm]

theorem finishRead_of_ok (h : st ≠ .err) (hshort : bytes.length < n → st = .eof) :
    finishRead dst n bytes st s = .next (((s.setRdSt st).setBuf dst bytes).countIn bytes.length) := by
  have hb : ¬ (bytes.length < n ∧ st ≠ .eof) := fun hc => hc.2 (hshort hc.1)
  rw [finishRead, if_neg h, if_neg hb]

theorem finishRead_of_failed (h : st = .err ∨ (bytes.length < n ∧ st ≠ .eof)) :
    finishRead dst n bytes st s = raise .ioReadError (s.setRdSt st) := by
  by_cases he : st = .err
  · rw [finishRead, if_pos he]
  · rw [finishRead, if_neg he, if_pos (h.resolve_left he)]

theorem memRead_sound {q : List ReadAnswer} (h : s.env.reads = .sound :: q) :
    memRead n s = .answered (s.nextInput n, if (s.nextInput n).length < n then .eof else .ok)
      (s.received n (s.nextInput n) (if (s.nextInput n).length < n then .eof else .ok) q) := by
  simp [memRead, soundRead, h]

theorem memRead_answer {short : Nat} {q : List ReadAnswer} (h : s.env.reads = .answer short st :: q) :
    memRead n s = .answered (s.nextInput (n - short), st) (s.received n (s.nextInput (n - short)) st q) := by
  simp [memRead, h]

theorem memRead_wait {q : List ReadAnswer} (h : s.env.reads = .wait :: q) :
    memRead n s = .waiting (s.setEnv { s.env with reads := q }) := by
  simp [memRead, h]

theorem memRead_hang {q : List ReadAnswer} (h : s.env.reads = .hang :: q) : memRead n s = .waiting s := by
  simp [memRead, h]

/-- The state after a read that is no failure: the bytes stored and counted (R160). -/
def readDone (dst : BufId) (n : Nat) (bytes : List Byte) (st : RdStatus) (q : List ReadAnswer) (s : State) : State :=
  (((s.received n bytes st q).setRdSt st).setBuf dst bytes).countIn bytes.length

/-- Everything `S.READ` can answer: a contract violation, a wait, the bytes stored, or `IoReadError`. -/
theorem sRead_next (h : exec (.sRead dst n) s = .next t) :
    (¬ readContract dst n s ∧ t = abort .contractViolation s) ∨ readContract dst n s ∧
    ((∃ q, t = (s.setEnv { s.env with reads := q }).reissue (.sRead dst n)) ∨
      ∃ k st q, k ≤ n ∧ (t = readDone dst n (s.nextInput k) st q s ∨
        t = abort .ioReadError ((s.received n (s.nextInput k) st q).setRdSt st))) := by
  by_cases hc : readContract dst n s
  · refine .inr ⟨hc, ?_⟩
    rcases memRead_cases n s with ⟨q, hm⟩ | ⟨k, st, q, hk, hm⟩
    · rw [exec_sRead_of_waiting hc hm] at h
      cases h
      exact .inl ⟨q, rfl⟩
    · rw [exec_sRead_of_answered hc hm] at h
      exact .inr ⟨k, st, q, hk, (finishRead_next h).imp (fun hok => hok.2.2) id⟩
  · rw [exec_sRead_of_not_contract hc] at h
    exact .inl ⟨hc, violate_next h⟩

theorem slice_of_finite {x : InStream} (h : x.endless = none) (p k : Nat) :
    x.slice p k = (x.bytes.drop p).take k := by
  simp [InStream.slice, h]

theorem slice_length_of_endless {x : InStream} (h : x.endless ≠ none) (p k : Nat) : (x.slice p k).length = k := by
  obtain ⟨e, he⟩ := Option.ne_none_iff_exists'.mp h
  simp only [InStream.slice, he, List.length_append, List.length_map, List.length_range, List.length_take]
  omega

theorem slice_of_listed {x : InStream} {p k : Nat} (h : p + k ≤ x.bytes.length) :
    x.slice p k = (x.bytes.drop p).take k := by
  cases he : x.endless with
  | none => exact slice_of_finite he p k
  | some e =>
    have hlen : k ≤ x.bytes.length - p := by omega
    simp [InStream.slice, he, hlen]

end Read

/-! ### `S.WRITE` -/

section Write

variable {src : BufId} {s s' t : State} {k : Nat} {st : WrStatus}

theorem exec_sWrite_of_empty (h : s.buf src = []) : exec (.sWrite src) s = .next s := if_pos h

theorem exec_sWrite_of_waiting (h : s.buf src ≠ []) (hm : memWrite (s.buf src) s = .waiting s') :
    exec (.sWrite src) s = .next (s'.reissue (.sWrite src)) := by
  rw [exec, execSWrite, if_neg h, hm]

theorem exec_sWrite_of_answered (h : s.buf src ≠ []) (hm : memWrite (s.buf src) s = .answered (k, st) s') :
    exec (.sWrite src) s = finishWrite (s'.buf src).length k st s' := by
  simp only [exec, execSWrite, if_neg h, hm]

theorem finishWrite_of_ok {m : Nat} (hm : m ≤ k) : finishWrite m k .ok s = .next (s.setWrSt .ok) := by
  have hc : ¬ (WrStatus.ok = .err ∨ k < m) := by rintro (h | h) <;> [cases h; omega]
  rw [finishWrite, if_neg hc]

theorem finishWrite_of_failed {m : Nat} (h : st = .err ∨ k < m) :
    finishWrite m k st s = raise .ioWriteError (s.setWrSt st) := by
  rw [finishWrite, if_pos h]

theorem memWrite_answer {bytes : List Byte} {short : Nat} {q : List WriteAnswer}
    (h : s.env.writes = .answer short st :: q) :
    memWrite bytes s = .answered (bytes.length - short, st) (s.sent bytes (bytes.length - short) st q) := by
  simp [memWrite, h]

theorem memWrite_wait {bytes : List Byte} {q : List WriteAnswer} (h : s.env.writes = .wait :: q) :
    memWrite bytes s = .waiting (s.setEnv { s.env with writes := q }) := by
  simp [memWrite, h]

theorem memWrite_hang {bytes : List Byte} {q : List WriteAnswer} (h : s.env.writes = .hang :: q) :
    memWrite bytes s = .waiting s := by
  simp [memWrite, h]

/-- Everything `S.WRITE` can answer: nothing to do, a wait, all bytes accepted, or `IoWriteError`. -/
theorem sWrite_next (h : exec (.sWrite src) s = .next t) :
    t = s ∨ (∃ q, t = (s.setEnv { s.env with writes := q }).reissue (.sWrite src)) ∨
      ∃ k st q, t = (s.sent (s.buf src) k st q).setWrSt st ∨
        t = abort .ioWriteError ((s.sent (s.buf src) k st q).setWrSt st) := by
  by_cases he : s.buf src = []
  · rw [exec_sWrite_of_empty he] at h
    cases h
    exact .inl rfl
  · right
    rcases memWrite_cases (s.buf src) s with ⟨q, hm⟩ | ⟨k, st, q, -, hm⟩
    · rw [exec_sWrite_of_waiting he hm] at h
      cases h
      exact .inl ⟨q, rfl⟩
    · rw [exec_sWrite_of_answered he hm] at h
      exact .inr ⟨k, st, q, (finishWrite_next h).imp (fun hok => hok.2.2) id⟩

end Write

/-! ### `S.DIAG` -/

theorem exec_sDiag_of_record {kind : DiagKind} {s : State}
    (h : kind = .tagval → (s.buf .tag).length = Config.tagLen) :
    exec (.sDiag kind) s = .next (s.sendDiag (diagRecord kind s)) :=
  if_neg fun hc => hc.2 (h hc.1)

theorem exec_sDiag_tagval_of_not_full {s : State} (h : (s.buf .tag).length ≠ Config.tagLen) :
    exec (.sDiag .tagval) s = violate s := if_pos ⟨rfl, h⟩

theorem sDiag_next {kind : DiagKind} {s t : State} (h : exec (.sDiag kind) s = .next t) :
    (kind = .tagval ∧ (s.buf .tag).length ≠ Config.tagLen ∧ t = abort .contractViolation s) ∨
    t = s.sendDiag (diagRecord kind s) := by
  by_cases hc : kind = .tagval ∧ (s.buf .tag).length ≠ Config.tagLen
  · obtain ⟨rfl, hlen⟩ := hc
    rw [exec_sDiag_tagval_of_not_full hlen] at h
    exact .inl ⟨rfl, hlen, violate_next h⟩
  · rw [exec_sDiag_of_record fun hk => not_not.mp fun hlen => hc ⟨hk, hlen⟩] at h
    cases h
    exact .inr rfl

end Sys2Proof.Machine
end

section
/-! The obligations on the buffer operations' other rules (R141 to R143, R150). -/

namespace Sys2Proof.Certificates

open Sys2Proof.Machine Sys2Proof.Safety

/-- Settles O34. -/
theorem bEmptyEmpties : Obligations.BEmptyEmpties := fun dst s =>
  ⟨_, exec_bEmpty dst s, s.setBuf_buf_self .., onlyBuf_setBuf ..⟩

/-- Settles O35: `ETAG`'s bytes are 16, and their block is `ETAG`. -/
theorem bFromArrayCopiesEtag : Obligations.BFromArrayCopiesEtag := by
  intro dst s
  refine ⟨fun hc => ?_, fun hc => violates_of_exec_eq_violate ((exec_bFromArray dst s).trans (if_neg hc))⟩
  refine ⟨_, (exec_bFromArray dst s).trans (if_pos hc), ?_, ?_, onlyBuf_setBuf ..⟩
  · rw [State.setBuf_buf_self, blockBytes_length]
  · rw [State.setBuf_buf_self, bytesBlock_blockBytes]

/-- Settles O36: the value left is the first bytes and, for growth, free ones after them. -/
theorem bResizeSetsLength : Obligations.BResizeSetsLength := by
  intro dst n s
  refine ⟨fun hc => ?_,
    fun hc => violates_of_exec_eq_violate ((exec_bResize dst n s).trans (if_neg (Nat.not_le.mpr hc)))⟩
  have hbuf : (((s.setBuf dst (resizedBuf s dst n)).drawn (n - (s.buf dst).length)).buf dst) = resizedBuf s dst n :=
    s.setBuf_buf_self ..
  refine ⟨_, (exec_bResize dst n s).trans (if_pos hc), ?_, ?_, fun _ hr => State.setBuf_buf_ne _ _ hr,
    fun _ => ⟨rfl, rfl⟩, rfl⟩
  · rw [hbuf, resizedBuf_length]
  · rw [hbuf, resizedBuf_take]

/-- Settles O42: the two parts are the first `n` bytes and the others; a pop and the matching split of a register into
itself assign one value, which fits since the register's own value does. -/
theorem splitsPopsAndConcat : Obligations.SplitsPopsAndConcat := by
  constructor
  case left =>
    intro src hd tl d n s hsrc htl hn hcap hcaptl hcapd
    have hhead := exec_next_of_guarded_assign (exec_bHead hd src n s) List.length_take_of_le hn hcap
    obtain ⟨t, ht⟩ : ∃ t, t = s.setBuf hd ((s.buf src).take n) := ⟨_, rfl⟩
    have hsrct : t.buf src = s.buf src := ht ▸ State.setBuf_buf_ne s _ (Ne.symm hsrc)
    have htail : exec (.bTail tl src ((s.buf src).length - n)) t = .next (t.setBuf tl ((s.buf src).drop n)) := by
      have hlen : (s.buf src).length - ((s.buf src).length - n) = n := Nat.sub_sub_self hn
      have h := exec_next_of_guarded_assign (exec_bTail tl src ((s.buf src).length - n) t) length_drop_sub
        (by rw [hsrct]; omega) (by rw [ht]; exact hcaptl)
      rwa [hsrct, hlen] at h
    obtain ⟨u, hu⟩ : ∃ u, u = t.setBuf tl ((s.buf src).drop n) := ⟨_, rfl⟩
    have huhd : u.buf hd = (s.buf src).take n := by
      rw [hu, State.setBuf_buf_ne t _ htl, ht, State.setBuf_buf_self]
    have hutl : u.buf tl = (s.buf src).drop n := by rw [hu, State.setBuf_buf_self]
    have hjoin : u.buf hd ++ u.buf tl = s.buf src := by rw [huhd, hutl, List.take_append_drop]
    have hfits : (u.buf hd).length + (u.buf tl).length ≤ cap u.params d := by
      rw [← List.length_append, hjoin, hu, ht]
      exact hcapd
    exact ⟨t, u, _, ht ▸ hhead, hu ▸ htail, hjoin, exec_bConcat_of_fits hfits,
      (State.setBuf_buf_self ..).trans hjoin⟩
  case right =>
    intro r n s hfit hn
    have hcap := bufsFit_buf hfit r
    have hsub : (s.buf r).length - n ≤ (s.buf r).length := Nat.sub_le ..
    constructor
    · rw [exec_bPopFront, if_pos hn, exec_bTail, if_pos hsub, Nat.sub_sub_self hn, assign_eq]
      exact (List.length_drop.trans_le (Nat.sub_le ..)).trans hcap
    · rw [exec_bPopBack, if_pos hn, exec_bHead, if_pos hsub, assign_eq]
      exact (List.length_take_le ..).trans (hsub.trans hcap)

end Sys2Proof.Certificates
end

section
/-! The obligations on the stream operations (R160 to R166). -/

namespace Sys2Proof.Certificates

open Sys2Proof.Machine Sys2Proof.Safety

/-- Settles O43: each kind of answer named is one on which `S.READ` finishes without failure. -/
theorem sReadStoresStream : Obligations.SReadStoresStream := by
  intro dst n s
  refine ⟨fun bytes st q h1 hcap hans => ?stored, fun hn => ?violates, fun he => slice_of_finite he _ _,
    fun he => ⟨slice_length_of_endless he _ _, slice_of_listed⟩⟩
  case stored =>
    obtain ⟨hm, hne, hshort⟩ : memRead n s = .answered (bytes, st) (s.received n bytes st q) ∧ st ≠ .err ∧
        (bytes.length < n → st = .eof) := by
      rcases hans with ⟨hq, hbytes, hst⟩ | ⟨short, hq, hbytes, hne, hfull⟩
      · have hb : bytes = s.nextInput n := hbytes
        refine ⟨?_, ?_, fun hlt => hst.trans (if_pos hlt)⟩
        · rw [hst, hb]
          rcases hq with ⟨hq, rfl⟩ | hq
          · exact memRead_quiet hq
          · exact memRead_sound hq
        · rw [hst]
          split <;> nofun
      · have hb : bytes = s.nextInput (n - short) := hbytes
        exact ⟨hb ▸ memRead_answer hq, hne, fun hlt => hfull.resolve_left hlt.ne⟩
    have hexec := (exec_sRead_of_answered ⟨h1, hcap⟩ hm).trans (finishRead_of_ok hne hshort)
    exact ⟨_, hexec, State.setBuf_buf_self .., rfl, rfl, rfl, fun _ hr => State.setBuf_buf_ne _ _ hr,
      fun _ => ⟨rfl, rfl⟩, rfl⟩
  case violates =>
    have hc : ¬ readContract dst n s := by rintro ⟨h1, hcap⟩; omega
    exact violates_of_exec_eq_violate (exec_sRead_of_not_contract hc)

/-- Settles O44: such an answer is what `finishRead` raises on, after the position has moved. -/
theorem sReadFailureAborts : Obligations.SReadFailureAborts := by
  intro dst n short st q s h1 hcap hq hfail
  have hraise : st = .err ∨ ((s.nextInput (n - short)).length < n ∧ st ≠ .eof) :=
    hfail.imp id fun ⟨hlen, hok⟩ => ⟨hlen, by rw [hok]; nofun⟩
  have hexec := (exec_sRead_of_answered ⟨h1, hcap⟩ (memRead_answer hq)).trans (finishRead_of_failed hraise)
  exact ⟨_, hexec, rfl, rfl, rfl, rfl, aborted_abort ..⟩

/-- Settles O45: an accepting sink takes the whole value in one transaction. -/
theorem sWriteSendsAll : Obligations.SWriteSendsAll := by
  intro src s
  refine ⟨exec_sWrite_of_empty, fun q hne hq => ?_⟩
  have hm : memWrite (s.buf src) s =
      .answered ((s.buf src).length, .ok) (s.sent (s.buf src) (s.buf src).length .ok q) := by
    rcases hq with ⟨hq, rfl⟩ | hq
    · exact memWrite_quiet hq
    · exact memWrite_answer hq
  have hexec := (exec_sWrite_of_answered hne hm).trans (finishWrite_of_ok le_rfl)
  refine ⟨_, hexec, rfl, fun _ => ⟨rfl, rfl⟩, ?_, rfl⟩
  simp only [State.setWrSt_env, State.sent, State.setEnv_env, List.take_length]

/-- Settles O46: such an answer is what `finishWrite` raises on, after the sink has taken its part. -/
theorem sWriteFailureAborts : Obligations.SWriteFailureAborts := by
  intro src short st q s hne hq hfail
  have hpos : 0 < (s.buf src).length := List.length_pos_iff.mpr hne
  have hraise : st = .err ∨ (s.buf src).length - short < (s.buf src).length := hfail.imp id fun h => by omega
  have hexec := (exec_sWrite_of_answered hne (memWrite_answer hq)).trans (finishWrite_of_failed hraise)
  exact ⟨_, hexec, rfl, rfl, aborted_abort ..⟩

/-- Settles O48: each kind's record is R108's; `TAGVAL` alone has a contract. -/
theorem sDiagSendsRecord : Obligations.SDiagSendsRecord := fun _ =>
  ⟨⟨_, exec_sDiag_of_record nofun, rfl, fun _ => ⟨rfl, rfl⟩⟩,
    ⟨_, exec_sDiag_of_record nofun, rfl, fun _ => ⟨rfl, rfl⟩⟩,
    fun h => ⟨_, exec_sDiag_of_record fun _ => h, rfl, fun _ => ⟨rfl, rfl⟩⟩,
    fun h => violates_of_exec_eq_violate (exec_sDiag_tagval_of_not_full h)⟩

end Sys2Proof.Certificates
end

section
/-! SUPPORT. What a step is between driver steps, by the host's next event, and what a word does on the internal bus and
on `CMD` (R41, R103, R321). -/

namespace Sys2Proof.Machine

open Sys2Proof.Safety

/-! ### Words -/

section Words

variable {w : Word} {i : Instr} {s : State}

theorem issueWord_of_driver (hw : decode w = .ok i) (hi : issuer i = .driver) : issueWord w s = exec i s := by
  simp only [issueWord, hw, hi, if_true]

/-- The word of a micro-operation runs it (R90, R111). -/
theorem issueWord_encode (hwf : WellFormed i) (hi : issuer i = .driver) : issueWord (encode i) s = exec i s :=
  issueWord_of_driver (Certificates.decodeAfterEncode i hwf) hi

theorem issueWord_of_not_driver (h : ∀ i, decode w = .ok i → issuer i = .host) : issueWord w s = violate s := by
  unfold issueWord
  split
  next i hw => rw [h i hw, if_neg (by decide)]
  next => rfl

theorem commandWord_of_host (hw : decode w = .ok i) (hi : issuer i = .host) : commandWord w s = exec i s := by
  simp only [commandWord, hw, hi, if_true]

theorem commandWord_encode (hwf : WellFormed i) (hi : issuer i = .host) : commandWord (encode i) s = exec i s :=
  commandWord_of_host (Certificates.decodeAfterEncode i hwf) hi

theorem commandWord_of_not_host (h : ∀ i, decode w = .ok i → issuer i = .driver) :
    commandWord w s = rejectCommand s := by
  unfold commandWord
  split
  next i hw => rw [h i hw, if_neg (by decide)]
  next => rfl

/-- The command that starts a call in a direction. -/
def callCommand : Dir → KSel → Nat → Instr
  | .enc, k, n => .encrypt k n
  | .dec, k, n => .decrypt k n

theorem callCommand_issuer (d : Dir) (k : KSel) (n : Nat) : issuer (callCommand d k n) = .host := by cases d <;> rfl

theorem callCommand_wellFormed (d : Dir) (k : KSel) {n : Nat} (hn : Fits16 n) : WellFormed (callCommand d k n) := by
  cases d <;> exact hn

/-- The operands of a call are those of its command's word. -/
theorem operands_callCommand (d : Dir) (k : KSel) {n : Nat} (hn : Fits16 n) :
    dirOf (encode (callCommand d k n)) = d ∧ kselOf (encode (callCommand d k n)) = k ∧
      countOf (encode (callCommand d k n)) = n := by
  have hword : encode (callCommand d k n) = packT 0x01 (dirNum d) (kselNum k) n := by cases d <;> rfl
  obtain ⟨-, hd, hk, -, hc⟩ :=
    fields_packT (n := n) (by decide : 0x01 < 256) (dirNum_lt d) (kselNum_lt k)
  rw [hword]
  refine ⟨?_, ?_, hc.trans (Nat.mod_eq_of_lt hn)⟩
  · rw [dirOf, hd, dirOfNum_dirNum]
  · rw [kselOf, hk, kselOfNum_kselNum]

/-- A host command is one of two, and is taken as its word. -/
theorem exec_of_host (hi : issuer i = .host) (s : State) : exec i s = acceptCommand (encode i) s := by
  cases i with
  | encrypt k n => rfl
  | decrypt k n => rfl
  | _ => cases hi

theorem acceptCommand_of_busy (hf : s.fsm = .streaming) : acceptCommand w s = .next s := if_pos hf

theorem acceptCommand_of_not_busy (hf : s.fsm ≠ .streaming) :
    acceptCommand w s = .next { beginCall s with cmdl := w, label := .st1 } := if_neg hf

theorem rejectCommand_of_busy (hf : s.fsm = .streaming) : rejectCommand s = .next s := if_pos hf

theorem rejectCommand_of_not_busy (hf : s.fsm ≠ .streaming) :
    rejectCommand s = raise .usageError { beginCall s with cmdl := 0 } := if_neg hf

/-- While busy a word on `CMD` is ignored, whatever it is (R41). -/
theorem commandWord_of_busy (hf : s.fsm = .streaming) (w : Word) : commandWord w s = .next s := by
  unfold commandWord
  split
  next i hw =>
    split
    next hi => rw [exec_of_host hi, acceptCommand_of_busy hf]
    next => exact rejectCommand_of_busy hf
  next => exact rejectCommand_of_busy hf

theorem runAction_op (w : Word) (s : State) : runAction (.op w) s = issueWord w s := rfl

end Words

/-! ### Steps -/

section Steps

variable {s : State} {e : HostEvent} {h : List HostEvent}

/-- Reset wins over everything (R321). -/
theorem step_of_reset {moved : Nat} (hh : s.env.host = .reset moved :: h) :
    step s = .next (resetInput moved (s.setHost h)) := by
  rw [step, cycle, hh]

/-- Between driver steps the host's next access lands (R32). -/
theorem step_of_hostEvent (hp : s.pending = []) (hh : s.env.host = e :: h) (hr : ∀ m, e ≠ .reset m) :
    step s = runHostEvent e (s.setHost h) := by
  have hnr : ∀ m h', s.env.host ≠ .reset m :: h' := by
    intro m h' hcontra
    rw [hh] at hcontra
    exact hr m (List.cons.inj hcontra).1
  rw [step_eq_cycleNoReset_of_not_reset hnr, cycleNoReset, hp, hh]

end Steps

/-! ### Reset -/

/-- What the environment keeps of an abandoned transaction: everything but the position and the sink (U3). -/
theorem abandonTransaction_frame (moved : Nat) (s : State) :
    { abandonTransaction moved s with pos := s.env.pos, sink := s.env.sink } = s.env := by
  unfold abandonTransaction
  split
  next => split <;> rfl
  next => rfl

/-! ### Operand memories -/

/-- Reading after writing a run of bytes: what was written, where it reaches, else what was there. -/
theorem Memory.read_writeBytes (size : Nat) {m : Memory} (hm : Memory.wf m) (i : Nat) (bytes : List Byte) (a : Nat) :
    Memory.read (Memory.writeBytes size m i bytes) a =
      if i ≤ a ∧ a < i + bytes.length ∧ a < size then bytes.getD (a - i) 0 else Memory.read m a := by
  induction bytes generalizing m i with
  | nil =>
    have hnone : ¬ (i ≤ a ∧ a < i + ([] : List Byte).length ∧ a < size) := by simp only [List.length_nil]; omega
    rw [if_neg hnone, Memory.writeBytes]
  | cons b bytes ih =>
    have hwf : Memory.wf (if i < size then Memory.write m i b else m) := by
      split
      · exact Memory.wf_write hm i b
      · exact hm
    rw [Memory.writeBytes, ih hwf, List.length_cons]
    by_cases hlater : i + 1 ≤ a ∧ a < i + 1 + bytes.length ∧ a < size
    · have hin : i ≤ a ∧ a < i + (bytes.length + 1) ∧ a < size := by omega
      have hsub : a - i = a - (i + 1) + 1 := by omega
      rw [if_pos hlater, if_pos hin, hsub, List.getD_cons_succ]
    · rw [if_neg hlater]
      by_cases hhere : a = i ∧ a < size
      · obtain ⟨rfl, hsize⟩ := hhere
        have hin : a ≤ a ∧ a < a + (bytes.length + 1) ∧ a < size := by omega
        rw [if_pos hsize, if_pos hin, Memory.read_write_self hm, Nat.sub_self, List.getD_cons_zero]
      · have hout : ¬ (i ≤ a ∧ a < i + (bytes.length + 1) ∧ a < size) := by omega
        rw [if_neg hout]
        split
        next hsize => exact Memory.read_write_ne m b (by omega)
        next => rfl

end Sys2Proof.Machine
end

section
/-! The obligations on single steps, on the host's accesses and on reset (R40 to R43, R56, R103, R320, R321). -/

namespace Sys2Proof.Certificates

open Sys2Proof.Machine Sys2Proof.Safety

/-- Settles O6. -/
theorem stepRunsIssuedOperation : Obligations.StepRunsIssuedOperation := fun _ _ _ _ hp hr hw hi =>
  (step_runs_pending_head hp hr).trans (issueWord_of_driver hw hi)

/-- Settles O7. -/
theorem stepRunsHostCommand : Obligations.StepRunsHostCommand := fun _ _ _ _ hp hh hw hi =>
  (step_of_hostEvent hp hh nofun).trans (commandWord_of_host hw hi)

/-- Settles O8: the call that the word begins is aborted at once. -/
theorem malformedCommandIsUsageError : Obligations.MalformedCommandIsUsageError := by
  intro s w h hp hh hf hw
  have hstep := ((step_of_hostEvent hp hh nofun).trans (commandWord_of_not_host hw)).trans
    (rejectCommand_of_not_busy hf)
  have hresult : resultByte (dirOf 0) false .usageError = 0x02 := by decide
  exact ⟨_, hstep, rfl, rfl, hresult, rfl, rfl, rfl, rfl, rfl, rfl, rfl, ⟨rfl, rfl, rfl⟩, rfl, rfl, rfl, rfl, rfl, rfl⟩

/-- Settles O9. -/
theorem illegalIssuedWordViolates : Obligations.IllegalIssuedWordViolates := fun _ _ _ hp hr hw =>
  ⟨_, (step_runs_pending_head hp hr).trans (issueWord_of_not_driver hw), aborted_abort ..⟩

/-- Settles O10: each of the three writes looks at `FSM` first. -/
theorem busyWritesIgnored : Obligations.BusyWritesIgnored := by
  rintro s e h hp hh (⟨num, v, rfl⟩ | ⟨hf, ⟨w, rfl⟩ | ⟨i, b, rfl⟩ | ⟨i, b, rfl⟩⟩)
  · exact step_of_hostEvent hp hh nofun
  · exact (step_of_hostEvent hp hh nofun).trans (commandWord_of_busy (s := s.setHost h) hf w)
  · exact (step_of_hostEvent hp hh nofun).trans (congrArg Host.Outcome.next (if_pos hf))
  · exact (step_of_hostEvent hp hh nofun).trans (congrArg Host.Outcome.next (if_pos hf))

/-- Settles O11: `STATUS` fits its byte, since a label's number has 6 bits and that of `FSM` 2. -/
theorem hostReadAnswers : Obligations.HostReadAnswers := by
  intro s num h hp hh
  have hstatus : s.status.toNat =
      (if s.fsm = .streaming then s.label.num.toNat * 4 else 0) + s.fsm.num.toNat := by
    have hl := s.label.num.isLt
    have hf := s.fsm.num.isLt
    rw [State.status, State.stepNum, BitVec.toNat_ofNat]
    split
    · omega
    · have hzero : (0 : BitVec 6).toNat = 0 := rfl
      omega
  rw [step_of_hostEvent hp hh nofun]
  match num with
  | 0 | 2 | 3 | 4 | n + 5 => rfl
  | 1 =>
    rw [← hstatus]
    rfl

/-- Settles O12: the register file of the two memories under a run of writes. -/
theorem operandWritesStore : Obligations.OperandWritesStore := by
  intro s i bytes h hp hf
  constructor
  · intro hh hwf
    refine ⟨_, (step_of_hostEvent hp hh nofun).trans (congrArg Host.Outcome.next (if_neg hf)), rfl, fun a => ?_⟩
    exact Memory.read_writeBytes keyBytes hwf i bytes a
  · intro hh hwf
    refine ⟨_, (step_of_hostEvent hp hh nofun).trans (congrArg Host.Outcome.next (if_neg hf)), rfl, fun a => ?_⟩
    exact Memory.read_writeBytes s.params.ivMax hwf i bytes a

/-- Settles O15, by running the definition. -/
theorem resetValues : Obligations.ResetValues :=
  ⟨rfl, rfl, rfl, rfl, rfl, rfl, rfl, rfl, rfl, fun _ => ⟨rfl, rfl⟩, rfl, fun r => by cases r <;> rfl,
    rfl, rfl, rfl⟩

/-- Settles O16: of the environment, an abandoned transaction moves the position or the sink alone. -/
theorem resetInputResets : Obligations.ResetInputResets := by
  intro s moved h hh
  have henv := abandonTransaction_frame moved (s.setHost h)
  have hhistory := congrArg Env.history henv
  have hsIn := congrArg Env.sIn henv
  have hhost := congrArg Env.host henv
  exact ⟨_, step_of_reset hh, rfl, hhistory, hsIn, hhost⟩

/-- Settles O17. -/
theorem invariantsHoldAtReset : Obligations.InvariantsHoldAtReset := by
  have hs : StructInv State.reset :=
    ⟨by decide, bufsFit_empty _, by decide, ⟨Nat.two_pow_pos _, Nat.two_pow_pos _⟩, by decide, by decide⟩
  exact ⟨hs, hs, fun _ => ⟨rfl, rfl, rfl⟩, ⟨fun _ => rfl, nofun⟩, nofun⟩

/-- Settles O21: what `ST0` does not set is clean at rest, or is one of the things agreed on. -/
theorem callsAreIndependent : Obligations.CallsAreIndependent := by
  rintro i s t hi ⟨⟨-, -, -, -, -, hrests⟩, hcleans, -, -⟩ ⟨⟨-, -, -, -, -, hrestt⟩, hcleant, -, -⟩ hs ht hkey hiv hp
    he hd
  obtain ⟨-, hctxs, hetags⟩ := hcleans hs
  obtain ⟨-, hctxt, hetagt⟩ := hcleant ht
  have hpend : s.pending = t.pending := (hrests hs).1.trans (hrestt ht).1.symm
  rw [exec_of_host hi, exec_of_host hi, acceptCommand_of_not_busy hs, acceptCommand_of_not_busy ht]
  simp only [beginCall, hkey, hiv, hp, he, hd, hctxs, hctxt, hetags, hetagt, hpend]

/-- Settles O22: the word latched carries the operands of the command. -/
theorem commandsStartACall : Obligations.CommandsStartACall := by
  intro i k n s hi
  obtain ⟨d, rfl⟩ : ∃ d, i = callCommand d k n := by
    rcases hi with rfl | rfl
    · exact ⟨.enc, rfl⟩
    · exact ⟨.dec, rfl⟩
  rw [exec_of_host (callCommand_issuer d k n)]
  refine ⟨acceptCommand_of_busy, fun hf => ⟨_, acceptCommand_of_not_busy hf, rfl, rfl, rfl, rfl, rfl, rfl, rfl, rfl,
    rfl, rfl, rfl, rfl, rfl, fun _ => ⟨rfl, rfl⟩, rfl, rfl, rfl, rfl, fun hn => ?_⟩⟩
  obtain ⟨hdir, hksel, hcount⟩ := operands_callCommand d k hn
  refine ⟨hksel, hcount, ?_⟩
  rw [State.cmdlDir, hdir]
  cases d <;> simp [callCommand]

/-- Settles O47: the word goes back to where it stood, and the answer stays. -/
theorem silentPortBlocks : Obligations.SilentPortBlocks := by
  intro s rest hh
  constructor
  · intro dst n q hn h1 hcap hp hq
    rw [step_of_pending_cons hp hh, runAction_op, issueWord_encode (i := .sRead dst n) hn rfl]
    exact (exec_sRead_of_waiting (s := s.setPending rest) ⟨h1, hcap⟩ (memRead_hang hq)).trans
      (congrArg Host.Outcome.next (State.setPending_eq_self hp))
  · intro src q hne hp hq
    rw [step_of_pending_cons hp hh, runAction_op, issueWord_encode (i := .sWrite src) trivial rfl]
    exact (exec_sWrite_of_waiting (s := s.setPending rest) hne (memWrite_hang hq)).trans
      (congrArg Host.Outcome.next (State.setPending_eq_self hp))

/-- Settles O50: the unit takes up the step that R171 to R179 write for the label. -/
theorem encryptionSteps : Obligations.EncryptionSteps := by
  intro s hf hp hh p hlist
  suffices hd : driverStep s = p from hd ▸ step_takes_up_driverStep hf hp hh
  cases hl : s.label with
  | st1 =>
    rw [hl] at hlist
    rw [driverStep, hl, hlist]
    cases hdir : s.cmdlDir <;> simp [stepSt1, Action.issue, hdir]
  | en4 =>
    rw [hl] at hlist
    rw [driverStep, hl, hlist]
    cases hlast : s.last <;> simp [stepEn4, hlast]
  | en1 | en2 | en3 | en5 | en6 | en7 =>
    rw [hl] at hlist
    rw [driverStep, hl, hlist]
    rfl
  | _ =>
    rw [hl] at hlist
    exact hlist.elim

/-- Settles O51: the same for R191 to R199 and R206 to R211. -/
theorem decryptionSteps : Obligations.DecryptionSteps := by
  intro s hf hp hh p hlist
  suffices hd : driverStep s = p from hd ▸ step_takes_up_driverStep hf hp hh
  cases hl : s.label with
  | de1 | de2 | de3 | de4 | de5 | de6 | de7 | de8 | de9 | df1 | df2 | df3 | df4 | df5 | df6 =>
    rw [hl] at hlist
    rw [driverStep, hl, hlist]
    rfl
  | _ =>
    rw [hl] at hlist
    exact hlist.elim

/-- Settles O52: each action by its definition. -/
theorem driverActions : Obligations.DriverActions := by
  intro s rest hh
  refine ⟨fun hp => ⟨_, step_of_pending_cons hp hh, decide_eq_true_iff, rfl⟩,
    fun hp => ⟨_, step_of_pending_cons hp hh, rfl, rfl⟩, fun l hp => step_of_pending_cons hp hh,
    fun r hp => step_of_pending_cons hp hh⟩

end Sys2Proof.Certificates
end

section
/-! SUPPORT. The host's loader: when groups of digits parse, to what, and on which group they fail (R220 to R223). -/

namespace Sys2Proof.Machine

/-! ### Groups of digits -/

/-- Every character is a hex digit (R220). -/
abbrev AllDigits (text : List Char) : Prop := ∀ c ∈ text, (hexDigit c).isSome = true

/-- The bytes that a text of digit pairs writes, high nibble first (R220). -/
def Writes (text : List Char) (bytes : List Byte) : Prop :=
  text.length = 2 * bytes.length ∧ AllDigits text ∧
    ∀ i a b, hexDigit (text.getD (2 * i) ' ') = some a → hexDigit (text.getD (2 * i + 1) ' ') = some b →
      bytes.getD i 0 = BitVec.ofNat 8 (16 * a + b)

section Groups

variable {context : HexContext} {g0 g1 : Char} {rest : List Char}

theorem parseGroups_cons {a b : Nat} (h0 : hexDigit g0 = some a) (h1 : hexDigit g1 = some b) :
    parseGroups context (g0 :: g1 :: rest) =
      (parseGroups context rest).map (BitVec.ofNat 8 (16 * a + b) :: ·) := by
  cases hr : parseGroups context rest <;> simp [parseGroups, h0, h1, hr, Except.map]

theorem parseGroups_cons_bad (h : hexDigit g0 = none ∨ hexDigit g1 = none) :
    parseGroups context (g0 :: g1 :: rest) = .error (.badHexDigit g0 g1 context) := by
  rcases h with h | h
  · simp [parseGroups, h]
  · cases h0 : hexDigit g0 <;> simp [parseGroups, h, h0]

theorem writes_nil : Writes [] [] := by
  refine ⟨rfl, fun c hc => absurd hc List.not_mem_nil, fun i a b h => ?_⟩
  have hblank : hexDigit ' ' = none := by decide
  rw [List.getD_nil, hblank] at h
  cases h

theorem writes_cons {bytes : List Byte} {a b : Nat} (h0 : hexDigit g0 = some a) (h1 : hexDigit g1 = some b)
    (h : Writes rest bytes) : Writes (g0 :: g1 :: rest) (BitVec.ofNat 8 (16 * a + b) :: bytes) := by
  obtain ⟨hlen, hdigits, hbytes⟩ := h
  refine ⟨by simp only [List.length_cons]; omega, fun c hc => ?_, fun i x y hx hy => ?_⟩
  · rcases List.mem_cons.mp hc with rfl | hc
    · rw [h0, Option.isSome_some]
    · rcases List.mem_cons.mp hc with rfl | hc
      · rw [h1, Option.isSome_some]
      · exact hdigits c hc
  · cases i with
    | zero =>
      have hxa : a = x := Option.some.inj (h0.symm.trans hx)
      have hyb : b = y := Option.some.inj (h1.symm.trans hy)
      rw [hxa, hyb, List.getD_cons_zero]
    | succ i =>
      rw [List.getD_cons_succ]
      exact hbytes i x y hx hy

end Groups

/-- Groups that parse are all digits, and the bytes are what they write. -/
theorem writes_of_parseGroups {context : HexContext} {text : List Char} {bytes : List Byte}
    (heven : text.length % 2 = 0) (h : parseGroups context text = .ok bytes) : Writes text bytes := by
  match text with
  | [] =>
    cases h
    exact writes_nil
  | [_] => cases heven
  | g0 :: g1 :: rest =>
    have hrest : rest.length % 2 = 0 := by simp only [List.length_cons] at heven; omega
    by_cases hbad : hexDigit g0 = none ∨ hexDigit g1 = none
    · rw [parseGroups_cons_bad hbad] at h
      cases h
    · obtain ⟨hb0, hb1⟩ := not_or.mp hbad
      obtain ⟨a, h0⟩ := Option.ne_none_iff_exists'.mp hb0
      obtain ⟨b, h1⟩ := Option.ne_none_iff_exists'.mp hb1
      rw [parseGroups_cons h0 h1] at h
      cases hr : parseGroups context rest with
      | error e => rw [hr] at h; cases h
      | ok bytes' =>
        rw [hr] at h
        cases h
        exact writes_cons h0 h1 (writes_of_parseGroups hrest hr)

/-- Groups of digits parse. -/
theorem parseGroups_of_allDigits (context : HexContext) {text : List Char} (h : AllDigits text) :
    ∃ bytes, parseGroups context text = .ok bytes := by
  match text with
  | [] => exact ⟨[], rfl⟩
  | [_] => exact ⟨[], rfl⟩
  | g0 :: g1 :: rest =>
    obtain ⟨a, h0⟩ := Option.isSome_iff_exists.mp (h g0 (by simp))
    obtain ⟨b, h1⟩ := Option.isSome_iff_exists.mp (h g1 (by simp))
    obtain ⟨bytes, hr⟩ := parseGroups_of_allDigits context (text := rest) fun c hc => h c (by simp [hc])
    exact ⟨_, by rw [parseGroups_cons h0 h1, hr]; rfl⟩

/-- The first group that is not two digits is the one reported (R223). -/
theorem parseGroups_first_bad (context : HexContext) {text : List Char} {j : Nat} (hj : 2 * j + 1 < text.length)
    (hbefore : AllDigits (text.take (2 * j)))
    (hbad : hexDigit (text.getD (2 * j) ' ') = none ∨ hexDigit (text.getD (2 * j + 1) ' ') = none) :
    parseGroups context text =
      .error (.badHexDigit (text.getD (2 * j) ' ') (text.getD (2 * j + 1) ' ') context) := by
  induction j generalizing text with
  | zero =>
    match text with
    | g0 :: g1 :: rest => exact parseGroups_cons_bad hbad
  | succ j ih =>
    match text with
    | g0 :: g1 :: rest =>
      have htake : (g0 :: g1 :: rest).take (2 * (j + 1)) = g0 :: g1 :: rest.take (2 * j) := rfl
      rw [htake] at hbefore
      obtain ⟨a, h0⟩ := Option.isSome_iff_exists.mp (hbefore g0 (by simp))
      obtain ⟨b, h1⟩ := Option.isSome_iff_exists.mp (hbefore g1 (by simp))
      have hlater := ih (text := rest) (by simp only [List.length_cons] at hj; omega)
        (fun c hc => hbefore c (by simp [hc])) hbad
      rw [parseGroups_cons h0 h1, hlater]
      rfl

theorem writes_append {t u : List Char} {x y : List Byte} (ht : Writes t x) (hu : Writes u y) :
    Writes (t ++ u) (x ++ y) := by
  obtain ⟨htlen, htdigits, htbytes⟩ := ht
  obtain ⟨hulen, hudigits, hubytes⟩ := hu
  refine ⟨by simp only [List.length_append]; omega, fun c hc => ?_, fun i a b ha hb => ?_⟩
  · rcases List.mem_append.mp hc with hc | hc
    · exact htdigits c hc
    · exact hudigits c hc
  · by_cases hi : i < x.length
    · rw [List.getD_append _ _ _ _ (by omega)] at ha hb
      rw [List.getD_append _ _ _ _ hi]
      exact htbytes i a b ha hb
    · have h0 : 2 * i - t.length = 2 * (i - x.length) := by omega
      have h1 : 2 * i + 1 - t.length = 2 * (i - x.length) + 1 := by omega
      rw [List.getD_append_right _ _ _ _ (by omega), h0] at ha
      rw [List.getD_append_right _ _ _ _ (by omega), h1] at hb
      rw [List.getD_append_right _ _ _ _ (by omega)]
      exact hubytes _ a b ha hb

/-! ### The loader -/

section Loader

variable {text : List Char} {kd : Nat}

theorem parseIvAndKey_short (h : text.length < kd) : parseIvAndKey text kd = .error .keyTooShort := if_pos h

theorem parseIvAndKey_odd (h : kd ≤ text.length) (hodd : (text.length - kd) % 2 = 1) :
    parseIvAndKey text kd = .error .oddIvLength := by
  rw [parseIvAndKey, if_neg (Nat.not_lt.mpr h), if_pos hodd]

theorem parseIvAndKey_iv_error {e : LoaderError} (h : kd ≤ text.length) (heven : (text.length - kd) % 2 = 0)
    (he : parseGroups .iv (text.take (text.length - kd)) = .error e) : parseIvAndKey text kd = .error e := by
  simp [parseIvAndKey, Nat.not_lt.mpr h, heven, he]

theorem parseIvAndKey_key_error {e : LoaderError} {iv : List Byte} (h : kd ≤ text.length)
    (heven : (text.length - kd) % 2 = 0) (hiv : parseGroups .iv (text.take (text.length - kd)) = .ok iv)
    (he : parseGroups .key (text.drop (text.length - kd)) = .error e) : parseIvAndKey text kd = .error e := by
  simp [parseIvAndKey, Nat.not_lt.mpr h, heven, hiv, he]

theorem parseIvAndKey_eq_ok_iff {iv key : List Byte} : parseIvAndKey text kd = .ok (iv, key) ↔
    kd ≤ text.length ∧ (text.length - kd) % 2 = 0 ∧ parseGroups .iv (text.take (text.length - kd)) = .ok iv ∧
      parseGroups .key (text.drop (text.length - kd)) = .ok key := by
  by_cases h : text.length < kd
  · simp [parseIvAndKey_short h, Nat.not_le.mpr h]
  · have hle : kd ≤ text.length := Nat.not_lt.mp h
    by_cases hodd : (text.length - kd) % 2 = 1
    · simp [parseIvAndKey_odd hle hodd, hodd]
    · have heven : (text.length - kd) % 2 = 0 := by omega
      cases hiv : parseGroups .iv (text.take (text.length - kd)) with
      | error e => simp [parseIvAndKey_iv_error hle heven hiv]
      | ok iv' =>
        cases hkey : parseGroups .key (text.drop (text.length - kd)) with
        | error e => simp [parseIvAndKey_key_error hle heven hiv hkey]
        | ok key' => simp [parseIvAndKey, h, hle, heven, hiv, hkey]

/-- A successful parse splits the text at the key digit count, and each part writes its bytes. -/
theorem writes_of_parseIvAndKey {iv key : List Byte} (hkd : kd % 2 = 0) (h : parseIvAndKey text kd = .ok (iv, key)) :
    kd ≤ text.length ∧ Writes (text.take (text.length - kd)) iv ∧ Writes (text.drop (text.length - kd)) key := by
  obtain ⟨hle, heven, hiv, hkey⟩ := parseIvAndKey_eq_ok_iff.mp h
  exact ⟨hle, writes_of_parseGroups (by rw [List.length_take]; omega) hiv,
    writes_of_parseGroups (by rw [List.length_drop]; omega) hkey⟩

end Loader

/-! ### `LOADKEY` -/

section LoadKey

variable {text : List Char} {z : KeySize} {s : State}

theorem hostLoadKey_error {e : LoaderError} (h : parseIvAndKey text (keyDigits z) = .error e) :
    hostLoadKey text z s = s.saw (.loadFailed e (hostReport e.code.num)) := by
  simp [hostLoadKey, h]

theorem hostLoadKey_ok {iv key : List Byte} (h : parseIvAndKey text (keyDigits z) = .ok (iv, key)) :
    hostLoadKey text z s = (loadIvBytes 0 iv (loadKeyBytes 0 key s)).saw (.loaded iv.length) := by
  simp [hostLoadKey, h]

/-- Both runs of writes start at address 0 (R225). -/
theorem hostLoadKey_ok_of_not_busy {iv key : List Byte} (h : parseIvAndKey text (keyDigits z) = .ok (iv, key))
    (hf : s.fsm ≠ .streaming) : hostLoadKey text z s = State.saw
      { s with key := Memory.writeBytes keyBytes s.key 0 key
               ivmem := Memory.writeBytes s.params.ivMax s.ivmem 0 iv } (.loaded iv.length) := by
  simp [hostLoadKey_ok h, loadKeyBytes, loadIvBytes, hf]

/-- Every failure of the loader makes the usage and format report (R224, R300). -/
theorem hostReport_loaderError (e : LoaderError) : hostReport e.code.num = .usage := by cases e <;> rfl

end LoadKey

end Sys2Proof.Machine
end

section
/-! The obligations on the host's loader (R220 to R225, R300). -/

namespace Sys2Proof.Certificates

open Sys2Proof.Machine Sys2Proof.Safety

/-- Settles O13: the loader's checks in order; the first bad group of the text is the first of the part it stands in. -/
theorem loaderOutcomes : Obligations.LoaderOutcomes := by
  intro text kd hkd
  have hkd2 : kd % 2 = 0 := by rcases hkd with rfl | rfl | rfl <;> rfl
  refine ⟨parseIvAndKey_short, parseIvAndKey_odd, fun iv key h => ?ok, fun hle heven => ⟨fun hall => ?digits,
    fun j g0 g1 hj hg0 hg1 hbefore hbad => ?bad⟩⟩
  case ok =>
    obtain ⟨hle, hiv, hkey⟩ := writes_of_parseIvAndKey hkd2 h
    have hboth := writes_append hiv hkey
    rw [List.take_append_drop] at hboth
    obtain ⟨hivlen, -, -⟩ := hiv
    obtain ⟨hkeylen, -, -⟩ := hkey
    obtain ⟨-, hall, hbytes⟩ := hboth
    rw [List.length_take] at hivlen
    rw [List.length_drop] at hkeylen
    exact ⟨hle, by omega, by omega, hall, hbytes⟩
  case digits =>
    obtain ⟨iv, hiv⟩ := parseGroups_of_allDigits .iv (text := text.take (text.length - kd))
      fun c hc => hall c (List.mem_of_mem_take hc)
    obtain ⟨key, hkey⟩ := parseGroups_of_allDigits .key (text := text.drop (text.length - kd))
      fun c hc => hall c (List.mem_of_mem_drop hc)
    exact ⟨iv, key, parseIvAndKey_eq_ok_iff.mpr ⟨hle, heven, hiv, hkey⟩⟩
  case bad =>
    subst hg0 hg1
    split
    case isTrue hin =>
      have hget (i : Nat) (hi : i < text.length - kd) :
          (text.take (text.length - kd)).getD i ' ' = text.getD i ' ' := by
        simp only [List.getD_eq_getElem?_getD, List.getElem?_take_of_lt hi]
      have htake : (text.take (text.length - kd)).take (2 * j) = text.take (2 * j) := by
        rw [List.take_take, Nat.min_eq_left hin.le]
      apply parseIvAndKey_iv_error hle heven
      rw [← hget (2 * j) hin, ← hget (2 * j + 1) (by omega)] at hbad ⊢
      exact parseGroups_first_bad .iv (by rw [List.length_take]; omega) (htake ▸ hbefore) hbad
    case isFalse hout =>
      obtain ⟨m, hm⟩ : ∃ m, text.length - kd = 2 * m := ⟨(text.length - kd) / 2, by omega⟩
      have hget (i : Nat) : (text.drop (text.length - kd)).getD i ' ' = text.getD (2 * m + i) ' ' := by
        simp [List.getD_eq_getElem?_getD, List.getElem?_drop, hm]
      have h0 : 2 * m + 2 * (j - m) = 2 * j := by omega
      have h1 : 2 * m + (2 * (j - m) + 1) = 2 * j + 1 := by omega
      obtain ⟨iv, hiv⟩ := parseGroups_of_allDigits .iv (text := text.take (text.length - kd)) fun c hc =>
        hbefore c (List.take_subset_take_left text (by omega) hc)
      apply parseIvAndKey_key_error hle heven hiv
      have hget0 := hget (2 * (j - m))
      have hget1 := hget (2 * (j - m) + 1)
      rw [h0] at hget0
      rw [h1] at hget1
      rw [← hget0, ← hget1] at hbad ⊢
      refine parseGroups_first_bad .key (by rw [List.length_drop]; omega) (fun c hc => hbefore c ?_) hbad
      rw [List.take_drop, hm, h0] at hc
      exact List.mem_of_mem_drop hc

/-- Settles O14: the two runs of writes of a successful load start at address 0, and the key's length is `kd/2`. -/
theorem loadKeyStoresOperands : Obligations.LoadKeyStoresOperands := by
  intro s text z h hp hf hwfk hwfi hh
  have hstep := step_of_hostEvent hp hh nofun
  constructor
  case left =>
    intro iv key hparse
    obtain ⟨hle, hivw, hkeyw⟩ := writes_of_parseIvAndKey (by rw [keyDigits]; omega) hparse
    have hklen : key.length = keyLen z := by
      obtain ⟨hlen, -, -⟩ := hkeyw
      rw [List.length_drop] at hlen
      rw [keyDigits] at hle hlen
      omega
    have hk32 : keyLen z ≤ keyBytes := by cases z <;> decide
    have hload := hostLoadKey_ok_of_not_busy (s := s.setHost h) hparse hf
    have hkey (a : Nat) : Memory.read (Memory.writeBytes keyBytes s.key 0 key) a =
        if a < keyLen z then key.getD a 0 else Memory.read s.key a := by
      have hiff : (0 ≤ a ∧ a < 0 + key.length ∧ a < keyBytes) ↔ a < keyLen z := by omega
      simp only [Memory.read_writeBytes keyBytes hwfk, hiff, Nat.sub_zero]
    refine ⟨_, hstep.trans (congrArg Host.Outcome.next hload), ?_, hkey, fun a => ?_, rfl⟩
    · apply List.ext_getElem
      · rw [Memory.slice_length, hklen]
      · intro a ha hakey
        have hlt : a < keyLen z := hklen ▸ hakey
        simp only [Memory.slice, List.getElem_map, List.getElem_range, Nat.zero_add]
        refine (hkey a).trans ?_
        rw [if_pos hlt, List.getD_eq_getElem _ _ hakey]
    · refine (Memory.read_writeBytes s.params.ivMax hwfi 0 iv a).trans ?_
      simp
  case right =>
    intro e hparse
    rw [hstep, runHostEvent, hostLoadKey_error hparse, hostReport_loaderError]
    rfl

end Sys2Proof.Certificates
end

section
/-! SUPPORT. The structural invariant under each update of the state, and under every operation (R22, R42, R45,
R134). -/

namespace Sys2Proof.Machine

open Sys2Proof.Safety

/-! ### Updates of the state -/

section Updates

variable {s : State}

theorem structInv_setBuf (h : StructInv s) {r : BufId} {v : List Byte} (hv : v.length ≤ cap s.params r) :
    StructInv (s.setBuf r v) := by
  obtain ⟨hp, hb, hrest⟩ := h
  exact ⟨hp, bufsFit_set hb hv, hrest⟩

theorem structInv_setEnv (h : StructInv s) (e : Env) : StructInv (s.setEnv e) := h

theorem structInv_drawn (h : StructInv s) (n : Nat) : StructInv (s.drawn n) := h

theorem structInv_setCtx (h : StructInv s) {c : Ctx} (hrk : c.rk.length = 15) (hn : c.n ≤ Config.msgMax) :
    StructInv (s.setCtx c) := by
  obtain ⟨hp, hb, ho, hc, -, hr⟩ := h
  exact ⟨hp, hb, ho, hc, ⟨hrk, hn⟩, hr⟩

theorem structInv_setEtag (h : StructInv s) (t : Block) : StructInv (s.setEtag t) := h

theorem structInv_setAuth (h : StructInv s) (b : Bool) : StructInv (s.setAuth b) := h

theorem structInv_setWrSt (h : StructInv s) (st : WrStatus) : StructInv (s.setWrSt st) := h

theorem structInv_markLast (h : StructInv s) : StructInv s.markLast := h

theorem structInv_saw (h : StructInv s) (x : HostSeen) : StructInv (s.saw x) := h

theorem ctxFits_zero : Ctx.zero.rk.length = 15 ∧ Ctx.zero.n ≤ Config.msgMax := by decide

theorem structInv_scrub (h : StructInv s) : StructInv s.scrub := by
  obtain ⟨hrk, hn⟩ := ctxFits_zero
  exact structInv_setEtag (structInv_setCtx h hrk hn) 0

theorem countUp_lt (p : Params) (c k : Nat) : countUp p c k < 2 ^ p.cntBits := Nat.mod_lt _ (Nat.two_pow_pos _)

theorem structInv_countIn (h : StructInv s) (k : Nat) : StructInv (s.countIn k) := by
  obtain ⟨hp, hb, ho, ⟨-, hout⟩, hc, hr⟩ := h
  exact ⟨hp, hb, ho, ⟨countUp_lt .., hout⟩, hc, hr⟩

theorem structInv_countOut (h : StructInv s) : StructInv s.countOut := by
  obtain ⟨hp, hb, ho, ⟨hin, -⟩, hc, hr⟩ := h
  exact ⟨hp, hb, ho, ⟨hin, countUp_lt ..⟩, hc, hr⟩

/-- While busy anything may be pending. -/
theorem structInv_setPending (h : StructInv s) (hf : s.fsm = .streaming) (p : List Action) :
    StructInv (s.setPending p) := by
  obtain ⟨hp, hb, ho, hn, hc, -⟩ := h
  exact ⟨hp, hb, ho, hn, hc, fun hne => absurd hf hne⟩

theorem structInv_goto (h : StructInv s) (hf : s.fsm = .streaming) (l : Label) : StructInv (s.goto l) := by
  obtain ⟨hp, hb, ho, hn, hc, -⟩ := h
  exact ⟨hp, hb, ho, hn, hc, fun hne => absurd hf hne⟩

theorem structInv_abort (h : StructInv s) (c : Code) : StructInv (abort c s) := by
  obtain ⟨hp, -, ho, hn, -, -⟩ := h
  exact ⟨hp, bufsFit_empty _, ho, hn, ctxFits_zero, fun _ => ⟨rfl, rfl⟩⟩

theorem structInv_finishCall (h : StructInv s) (r : BitVec 8) : StructInv (finishCall r s) := by
  obtain ⟨hp, -, ho, hn, hc, -⟩ := h
  exact ⟨hp, bufsFit_empty _, ho, hn, hc, fun _ => ⟨rfl, rfl⟩⟩

/-- A call begins with empty buffers and counters at 0, whatever is latched (R170). -/
theorem structInv_beginCall (h : StructInv s) (w : Word) (l : Label) :
    StructInv { beginCall s with cmdl := w, label := l } := by
  obtain ⟨hp, -, ho, -, hc, -⟩ := h
  exact ⟨hp, bufsFit_empty _, ho, ⟨Nat.two_pow_pos _, Nat.two_pow_pos _⟩, hc, fun hne => absurd rfl hne⟩

theorem structInv_resetInput (h : StructInv s) (moved : Nat) : StructInv (resetInput moved s) := by
  obtain ⟨hp, -⟩ := h
  exact ⟨hp, bufsFit_empty _, ⟨Memory.wf_nil, nofun, Memory.wf_nil, nofun⟩, ⟨Nat.two_pow_pos _, Nat.two_pow_pos _⟩,
    ctxFits_zero, fun _ => ⟨rfl, rfl⟩⟩

theorem structInv_loadKeyBytes (h : StructInv s) (i : Nat) (bytes : List Byte) :
    StructInv (loadKeyBytes i bytes s) := by
  unfold loadKeyBytes
  split
  next => exact h
  next =>
    obtain ⟨hp, hb, ⟨hkw, hkb, hi⟩, hrest⟩ := h
    exact ⟨hp, hb, ⟨Memory.wf_writeBytes _ hkw i bytes, Memory.below_writeBytes hkb i bytes, hi⟩, hrest⟩

theorem structInv_loadIvBytes (h : StructInv s) (i : Nat) (bytes : List Byte) :
    StructInv (loadIvBytes i bytes s) := by
  unfold loadIvBytes
  split
  next => exact h
  next =>
    obtain ⟨hp, hb, ⟨hkw, hkb, hiw, hib⟩, hrest⟩ := h
    exact ⟨hp, hb, ⟨hkw, hkb, Memory.wf_writeBytes _ hiw i bytes, Memory.below_writeBytes hib i bytes⟩, hrest⟩

theorem structInv_hostLoadKey (h : StructInv s) (text : List Char) (z : KeySize) :
    StructInv (hostLoadKey text z s) := by
  cases hparse : parseIvAndKey text (keyDigits z) with
  | error e =>
    rw [hostLoadKey_error hparse]
    exact structInv_saw h _
  | ok r =>
    rw [hostLoadKey_ok hparse]
    exact structInv_saw (structInv_loadIvBytes (structInv_loadKeyBytes h ..) ..) _

theorem structInv_presentStreams (h : StructInv s) (x : InStream) : StructInv (presentStreams x s) := by
  unfold presentStreams
  split
  next => exact h
  next => exact structInv_setEnv h _

theorem structInv_advanceDriver (h : StructInv s) : StructInv (advanceDriver s) := by
  unfold advanceDriver
  split
  next hf => exact structInv_setPending h hf _
  next => exact h

/-- An action is pending only while busy (R31). -/
theorem busy_of_pending (h : StructInv s) {a : Action} {rest : List Action} (hp : s.pending = a :: rest) :
    s.fsm = .streaming := by
  obtain ⟨-, -, -, -, -, hr⟩ := h
  by_contra hf
  have hnil := (hr hf).1
  rw [hp] at hnil
  cases hnil

end Updates

/-! ### Operations -/

section Operations

variable {s t : State}

theorem structInv_assign (h : StructInv s) {dst : BufId} {v : List Byte} (ht : assign dst v s = .next t) :
    StructInv t := by
  rcases assign_next ht with ⟨hv, rfl⟩ | ⟨-, rfl⟩
  · exact structInv_setBuf h hv
  · exact structInv_abort h _

theorem structInv_guarded_assign (h : StructInv s) {dst : BufId} {v : List Byte} {p : Prop} [Decidable p]
    (ht : (if p then assign dst v s else violate s) = .next t) : StructInv t := by
  rcases guarded_assign_next ht with rfl | ⟨hv, rfl⟩
  · exact structInv_abort h _
  · exact structInv_setBuf h hv

/-- A pop leaves at most what the register held. -/
theorem structInv_shrink (h : StructInv s) {dst : BufId} {v : List Byte} {p : Prop} [Decidable p]
    (hv : v.length ≤ (s.buf dst).length) (ht : (if p then .next (s.setBuf dst v) else violate s) = .next t) :
    StructInv t := by
  have hcap : v.length ≤ cap s.params dst := hv.trans (bufsFit_buf h.2.1 dst)
  split at ht
  next =>
    cases ht
    exact structInv_setBuf h hcap
  next =>
    rw [violate_next ht]
    exact structInv_abort h _

theorem structInv_bindEngine (h : StructInv s) {klen : Nat} (hk : KeyLength klen) (d : Dir) (n : Nat) :
    StructInv (bindEngine d klen n s) := by
  have hkey : KeyLength (Memory.slice s.key 0 klen).length := (Memory.slice_length ..).symm ▸ hk
  have hctx := h
  obtain ⟨-, -, -, -, ⟨hrk, -⟩, -⟩ := hctx
  exact structInv_setCtx h (initCtx_rk_length hkey hrk) (Nat.zero_le _)

theorem structInv_eUpdate (h : StructInv s) {dst src : BufId} (ht : exec (.eUpdate dst src) s = .next t) :
    StructInv t := by
  rcases eUpdate_next ht with ⟨-, rfl⟩ | ⟨⟨-, -, -, hcap, -⟩, hn, q, (rfl | rfl) | ⟨o, ho, rfl⟩⟩
  · exact structInv_abort h _
  · exact structInv_abort (structInv_setEnv h _) _
  · exact structInv_abort (structInv_setEnv h _) _
  · have hctx := h
    obtain ⟨-, -, -, -, ⟨hrk, -⟩, -⟩ := hctx
    obtain ⟨y, part, hu⟩ := update_ctx s.ctx (s.buf src)
    have hs : StructInv ((s.asked q).setCtx (update s.ctx (s.buf src)).2) :=
      structInv_setCtx (structInv_setEnv h _) (by rw [hu]; exact hrk) (by rw [hu]; exact hn)
    exact structInv_setBuf hs (ho.trans_le hcap)

theorem structInv_sRead (h : StructInv s) (hf : s.fsm = .streaming) {dst : BufId} {n : Nat}
    (ht : exec (.sRead dst n) s = .next t) : StructInv t := by
  rcases sRead_next ht with ⟨-, rfl⟩ | ⟨⟨-, hcap⟩, ⟨q, rfl⟩ | ⟨k, st, q, hk, rfl | rfl⟩⟩
  · exact structInv_abort h _
  · exact structInv_setPending (s := s.setEnv _) (structInv_setEnv h _) hf _
  · have hlen : (s.nextInput k).length ≤ cap s.params dst := (nextInput_length_le s k).trans (hk.trans hcap)
    exact structInv_countIn (structInv_setBuf (s := (s.received n (s.nextInput k) st q).setRdSt st) h hlen) _
  · exact structInv_abort (s := (s.received n (s.nextInput k) st q).setRdSt st) h _

theorem structInv_sWrite (h : StructInv s) (hf : s.fsm = .streaming) {src : BufId}
    (ht : exec (.sWrite src) s = .next t) : StructInv t := by
  rcases sWrite_next ht with rfl | ⟨q, rfl⟩ | ⟨k, st, q, rfl | rfl⟩
  · exact h
  · exact structInv_setPending (s := s.setEnv _) (structInv_setEnv h _) hf _
  · exact structInv_setWrSt (s := s.sent (s.buf src) k st q) h st
  · exact structInv_abort (s := (s.sent (s.buf src) k st q).setWrSt st) h _

/-- Every operation keeps the structural invariant, a micro-operation while busy, a host command always. -/
theorem exec_keeps_structInv {i : Instr} (h : StructInv s) (hf : issuer i = .driver → s.fsm = .streaming)
    (ht : exec i s = .next t) : StructInv t := by
  cases i with
  | encrypt k n | decrypt k n =>
    rcases acceptCommand_next ht with ⟨-, rfl⟩ | ⟨-, rfl⟩
    · exact h
    · exact structInv_beginCall h _ _
  | eInit d k n =>
    rcases eInit_next ht with ⟨-, rfl⟩ | ⟨q, rfl | ⟨klen, hk, rfl⟩⟩
    · exact structInv_abort h _
    · exact structInv_abort (structInv_setEnv h _) _
    · exact structInv_bindEngine (structInv_setEnv h _) hk d n
  | eUpdate dst src => exact structInv_eUpdate h ht
  | eFinalizeEnc =>
    have hctx := h
    obtain ⟨-, -, -, -, ⟨hrk, hn⟩, -⟩ := hctx
    rcases eFinalizeEnc_next ht with ⟨-, rfl⟩ | ⟨-, q, (rfl | rfl) | rfl⟩
    · exact structInv_abort h _
    · exact structInv_abort (structInv_setEnv h _) _
    · exact structInv_abort (structInv_setEnv h _) _
    · exact structInv_setCtx (structInv_setEtag (structInv_setEnv h _) _) hrk hn
  | eSetTag src =>
    have hctx := h
    obtain ⟨-, -, -, -, ⟨hrk, hn⟩, -⟩ := hctx
    rcases eSetTag_next ht with ⟨-, rfl⟩ | ⟨-, rfl⟩
    · exact structInv_abort h _
    · exact structInv_setCtx h hrk hn
  | eFinalizeDec =>
    have hctx := h
    obtain ⟨-, -, -, -, ⟨hrk, hn⟩, -⟩ := hctx
    rcases eFinalizeDec_next ht with ⟨-, rfl⟩ | ⟨-, q, rfl | rfl⟩
    · exact structInv_abort h _
    · exact structInv_abort (structInv_setEnv h _) _
    · exact structInv_setCtx (structInv_setAuth (structInv_setEnv h _) _) hrk hn
  | eRelease =>
    cases ht
    exact structInv_scrub h
  | bEmpty dst =>
    cases ht
    exact structInv_setBuf h (Nat.zero_le _)
  | bFromArray dst =>
    rw [exec_bFromArray] at ht
    split at ht
    next hc =>
      cases ht
      exact structInv_setBuf h ((blockBytes_length _).trans hc.symm).le
    next =>
      rw [violate_next ht]
      exact structInv_abort h _
  | bResize dst n =>
    rw [exec_bResize] at ht
    split at ht
    next hc =>
      cases ht
      exact structInv_drawn (structInv_setBuf h ((resizedBuf_length s dst n).trans_le hc)) _
    next =>
      rw [violate_next ht]
      exact structInv_abort h _
  | bConcat dst a b => exact structInv_assign h ht
  | bHead dst src n => exact structInv_guarded_assign h (exec_bHead dst src n s ▸ ht)
  | bTail dst src n => exact structInv_guarded_assign h (exec_bTail dst src n s ▸ ht)
  | bPopFront dst n =>
    exact structInv_shrink h (List.length_drop.trans_le (Nat.sub_le ..)) (exec_bPopFront dst n s ▸ ht)
  | bPopBack dst n => exact structInv_shrink h (List.length_take_le' ..) (exec_bPopBack dst n s ▸ ht)
  | bCopy dst src => exact structInv_assign h ht
  | sRead dst n => exact structInv_sRead h (hf rfl) ht
  | sWrite src => exact structInv_sWrite h (hf rfl) ht
  | sDiag kind =>
    rcases sDiag_next ht with ⟨-, -, rfl⟩ | rfl
    · exact structInv_abort h _
    · exact structInv_setEnv h _

theorem runAction_keeps_structInv {a : Action} (h : StructInv s) (hf : s.fsm = .streaming)
    (ht : runAction a s = .next t) : StructInv t := by
  cases a with
  | op w =>
    rw [runAction_op, issueWord] at ht
    split at ht
    next i _ =>
      split at ht
      next => exact exec_keeps_structInv h (fun _ => hf) ht
      next =>
        rw [violate_next ht]
        exact structInv_abort h _
    next =>
      rw [violate_next ht]
      exact structInv_abort h _
  | countOut =>
    cases ht
    exact structInv_countOut h
  | markLast =>
    cases ht
    exact structInv_markLast h
  | goto l =>
    cases ht
    exact structInv_goto h hf l
  | raise c =>
    rw [raise_next ht]
    exact structInv_abort h c
  | complete r =>
    cases ht
    exact structInv_finishCall h r

theorem commandWord_keeps_structInv {w : Word} (h : StructInv s) (ht : commandWord w s = .next t) : StructInv t := by
  have hreject {u : State} (hu : rejectCommand s = .next u) : StructInv u := by
    rcases rejectCommand_next hu with ⟨-, rfl⟩ | ⟨-, rfl⟩
    · exact h
    · exact structInv_abort (structInv_beginCall h 0 .st0) _
  rw [commandWord] at ht
  split at ht
  next i _ =>
    split at ht
    next hi => exact exec_keeps_structInv h (fun hd => by rw [hi] at hd; cases hd) ht
    next => exact hreject ht
  next => exact hreject ht

theorem runHostEvent_keeps_structInv {e : HostEvent} (h : StructInv s) (ht : runHostEvent e s = .next t) :
    StructInv t := by
  cases e with
  | writeCmd w => exact commandWord_keeps_structInv h ht
  | writeKey i bytes =>
    cases ht
    exact structInv_loadKeyBytes h i bytes
  | writeIv i bytes =>
    cases ht
    exact structInv_loadIvBytes h i bytes
  | writeOther num value =>
    cases ht
    exact h
  | readReg num =>
    cases ht
    exact structInv_saw h _
  | loadKey text z =>
    cases ht
    exact structInv_hostLoadKey h text z
  | present x =>
    cases ht
    exact structInv_presentStreams h x
  | nothing =>
    cases ht
    exact structInv_advanceDriver h
  | reset moved =>
    cases ht
    exact structInv_resetInput h moved

end Operations

/-! ### One step, once and for all -/

/-- Everything a step can be: reset, the first action left of the driver step, the host's next event, or the taking up
of the driver step at `STEP` (R31, R32, R321). -/
theorem step_cases (s : State) :
    (∃ moved h, s.env.host = .reset moved :: h ∧ step s = .next (resetInput moved (s.setHost h))) ∨
    (∃ a rest h, s.pending = a :: rest ∧ step s = runAction a ((s.setPending rest).setHost h)) ∨
    (∃ e h, s.pending = [] ∧ s.env.host = e :: h ∧ step s = runHostEvent e (s.setHost h)) ∨
    (s.pending = [] ∧ step s = .next (advanceDriver s)) := by
  by_cases hreset : ∃ m h, s.env.host = .reset m :: h
  · obtain ⟨m, h, hh⟩ := hreset
    exact .inl ⟨m, h, hh, step_of_reset hh⟩
  · have hr : ∀ m h, s.env.host ≠ .reset m :: h := fun m h hh => hreset ⟨m, h, hh⟩
    cases hp : s.pending with
    | cons a rest => exact .inr (.inl ⟨a, rest, _, rfl, step_runs_pending_head hp hr⟩)
    | nil =>
      cases hh : s.env.host with
      | cons e h =>
        have he : ∀ m, e ≠ .reset m := fun m hm => hr m h (hm ▸ hh)
        exact .inr (.inr (.inl ⟨e, h, rfl, rfl, step_of_hostEvent hp hh he⟩))
      | nil => exact .inr (.inr (.inr ⟨rfl, step_of_pending_nil hp hh⟩))

end Sys2Proof.Machine
end

section
/-! The obligation on the structural invariant (R22, R31, R42, R45, R134). -/

namespace Sys2Proof.Certificates

open Sys2Proof.Machine Sys2Proof.Safety

/-- Settles O18, by what a step can be; an action is pending only while busy. -/
theorem stepKeepsStructInv : Obligations.StepKeepsStructInv := by
  intro s t h ht
  rcases step_cases s with ⟨moved, hs, -, hstep⟩ | ⟨a, rest, hs, hp, hstep⟩ | ⟨e, hs, -, -, hstep⟩ | ⟨-, hstep⟩
  all_goals rw [hstep] at ht
  · cases ht
    exact structInv_resetInput (structInv_setEnv h _) moved
  · have hbusy := busy_of_pending h hp
    have hpopped := structInv_setEnv (structInv_setPending h hbusy rest) { s.env with host := hs }
    exact runAction_keeps_structInv hpopped hbusy ht
  · exact runHostEvent_keeps_structInv (structInv_setEnv h _) ht
  · cases ht
    exact structInv_advanceDriver h

end Sys2Proof.Certificates
end

section
/-! SUPPORT. The driver's invariant inside a driver step: what is under way, and, for each kind of action the driver
issues, what has to be shown for the invariant to hold after it (R25, R52, R281). -/

namespace Sys2Proof.Machine

open Sys2Proof.Safety

/-! ### The driver's facts at a known label -/

/-- The facts of a state at a label are those of the label. -/
theorem phaseAt_iff {s : State} {l : Label} (h : s.label = l) (m : Nat) :
    PhaseAt s m ↔ PhaseAt { s with label := l } m := by subst h; rfl

/-- The step of a state at a label is that of the label. -/
theorem driverStep_eq {s : State} {l : Label} (h : s.label = l) : driverStep s = driverStep { s with label := l } := by
  subst h; rfl

/-- An end of a list is the whole of it or an end of its tail. -/
theorem suffix_cons_cases {α : Type} {a x : α} {rest l : List α} (h : a :: rest <:+ x :: l) :
    (a = x ∧ rest = l) ∨ a :: rest <:+ l := by
  rcases List.suffix_cons_iff.mp h with heq | h
  · exact .inl (List.cons.inj heq)
  · exact .inr h

theorem not_cons_suffix_nil {α : Type} {a : α} {rest : List α} : ¬ a :: rest <:+ [] := by
  intro h
  cases List.suffix_nil.mp h

/-! ### What is under way -/

/-- Action `a` of a driver step has been taken off and runs in `s`; `rest` is left. -/
structure Doing (s : State) (a : Action) (rest : List Action) : Prop where
  struct : StructInv s
  busy : s.fsm = .streaming
  running : s.result = 0x0F
  pending : s.pending = rest
  suffix : a :: rest <:+ driverStep s
  dir : ∀ d, labelDir s.label = some d → s.cmdlDir = d
  phase : PhaseAt s (rest.length + 1)

section Doing

variable {s v t : State} {a : Action} {i : Instr} {rest : List Action} {l : Label}

/-- The facts of the step under way, at a known label. -/
theorem Doing.facts (h : Doing s a rest) (hl : s.label = l) : PhaseAt { s with label := l } (rest.length + 1) :=
  (phaseAt_iff hl _).mp h.phase

theorem Doing.suffix_of_label (h : Doing s a rest) (hl : s.label = l) :
    a :: rest <:+ driverStep { s with label := l } := driverStep_eq hl ▸ h.suffix

theorem Doing.cmdlDir_eq (h : Doing s a rest) {d : Dir} (hl : labelDir s.label = some d) : s.cmdlDir = d := h.dir d hl

/-- Inside a step `STEP` does not move, and what is left of the step stays left. -/
theorem Doing.onTrack_same (h : Doing s a rest) (hl : s.label = l) (hv : v.label = l) (hc : v.cmdl = s.cmdl)
    (hp : v.pending = rest) (hd : driverStep { v with label := l } = driverStep { s with label := l })
    (hphase : PhaseAt { v with label := l } rest.length) : OnTrack v := by
  refine ⟨?_, fun d hld => ?_, ?_⟩
  · rw [hp, driverStep_eq hv, hd]
    exact (List.suffix_cons a rest).trans (h.suffix_of_label hl)
  · rw [State.cmdlDir, hc]
    exact h.dir d (by rw [hl, ← hv]; exact hld)
  · rw [hp]
    exact (phaseAt_iff hv _).mpr hphase

/-- A jump ends the step; the new label belongs to the same direction. -/
theorem Doing.onTrack_goto (h : Doing s (.goto l) []) (hd : ∀ d, labelDir l = some d → s.cmdlDir = d)
    (hphase : PhaseAt { s with label := l } 0) : OnTrack (s.goto l) := by
  have hp : (s.goto l).pending = [] := h.pending
  exact ⟨hp ▸ List.nil_suffix, hd, hp ▸ hphase⟩

/-! ### The three ways an action ends -/

/-- An aborted call leaves nothing behind but its outcome. -/
theorem driverInv_abort {c : Code} (hs : StructInv (abort c v)) (hc : resultByte v.cmdlDir false c ∈ doneResults) :
    DriverInv (abort c v) :=
  ⟨hs, fun _ => ⟨rfl, rfl, rfl⟩, ⟨fun hn => absurd rfl hn, fun _ => hc⟩, nofun⟩

/-- The call goes on. -/
theorem Doing.next (h : Doing s a rest) (ht : runAction a s = .next t) (hf : t.fsm = s.fsm) (hr : t.result = s.result)
    (hon : OnTrack t) : DriverInv t := by
  have hbusy : t.fsm = .streaming := hf.trans h.busy
  refine ⟨runAction_keeps_structInv h.struct h.busy ht, fun hn => absurd hbusy hn, ⟨fun _ => hr.trans h.running, ?_⟩,
    fun _ => hon⟩
  intro hdone
  rw [hbusy] at hdone
  cases hdone

/-- The call is aborted with a code of R281. -/
theorem Doing.abort (h : Doing s a rest) (ht : runAction a s = .next (abort c v))
    (hc : resultByte v.cmdlDir false c ∈ doneResults) : DriverInv (Machine.abort c v) :=
  driverInv_abort (runAction_keeps_structInv h.struct h.busy ht) hc

/-- The port is not ready: the micro-operation comes again, and no fact of the label has changed. -/
theorem Doing.wait (h : Doing s (.issue i) rest) {e : Env}
    (ht : runAction (.issue i) s = .next ((s.setEnv e).reissue i))
    (hphase : PhaseAt (s.setEnv e) = PhaseAt s) : DriverInv ((s.setEnv e).reissue i) := by
  have hp : ((s.setEnv e).reissue i).pending = .issue i :: rest := by
    rw [← h.pending]
    rfl
  refine h.next ht rfl rfl ⟨?_, h.dir, ?_⟩
  · rw [hp]
    exact h.suffix
  · rw [hp]
    have hph : PhaseAt (s.setEnv e) (rest.length + 1) := hphase ▸ h.phase
    exact hph

end Doing

/-! ### The codes a call can end with -/

/-- The codes of R281 that both directions can report. -/
def sharedCodes : List Code :=
  [.engineInitError, .ioReadError, .ioWriteError, .transformSizeMismatch, .engineTransformError]

theorem resultByte_mem_doneResults {c : Code} (hc : c ∈ sharedCodes) (d : Dir) :
    resultByte d false c ∈ doneResults := by
  simp only [sharedCodes, List.mem_cons, List.not_mem_nil, or_false] at hc
  rcases hc with rfl | rfl | rfl | rfl | rfl <;> cases d <;> decide

/-! ### The micro-operations of the driver, their contracts met -/

section Issued

variable {s t : State} {rest : List Action}

theorem runAction_issue {i : Instr} (hwf : WellFormed i) (hi : issuer i = .driver) (s : State) :
    runAction (.issue i) s = exec i s := issueWord_encode hwf hi

theorem Doing.abort_shared {a : Action} {v : State} {c : Code} (h : Doing s a rest)
    (ht : runAction a s = .next (Machine.abort c v)) (hc : c ∈ sharedCodes) : DriverInv (Machine.abort c v) :=
  h.abort ht (resultByte_mem_doneResults hc _)

theorem Doing.eInit {d : Dir} {k : KSel} {n : Nat} (h : Doing s (.issue (.eInit d k n)) rest)
    (ht : runAction (.issue (.eInit d k n)) s = .next t) (hn : Fits16 n) (hv : s.ctx.valid = false)
    (hon : ∀ klen, OnTrack (bindEngine d klen n s)) : DriverInv t := by
  have hexec := (runAction_issue (i := .eInit d k n) hn rfl s).symm.trans ht
  rcases eInit_next hexec with ⟨hv', -⟩ | ⟨q, rfl | ⟨klen, -, rfl⟩⟩
  · rw [hv] at hv'
    cases hv'
  · exact h.abort_shared ht (by decide)
  · exact h.next ht rfl rfl (hon klen)

theorem Doing.eUpdate {dst src : BufId} (h : Doing s (.issue (.eUpdate dst src)) rest)
    (ht : runAction (.issue (.eUpdate dst src)) s = .next t) (hc : updateContract dst src s)
    (hon : ∀ o : List Byte, OnTrack ((s.setCtx (update s.ctx (s.buf src)).2).setBuf dst o)) : DriverInv t := by
  have hexec := (runAction_issue (i := .eUpdate dst src) trivial rfl s).symm.trans ht
  rcases eUpdate_next hexec with ⟨hnc, -⟩ | ⟨-, -, q, (rfl | rfl) | ⟨o, -, rfl⟩⟩
  · exact absurd hc hnc
  · exact h.abort_shared ht (by decide)
  · exact h.abort_shared ht (by decide)
  · exact h.next ht rfl rfl (hon o)

theorem Doing.eFinalizeEnc (h : Doing s (.issue .eFinalizeEnc) rest) (ht : runAction (.issue .eFinalizeEnc) s = .next t)
    (hc : finalizeEncContract s) (hon : OnTrack (finalizedEnc s)) : DriverInv t := by
  have hexec := (runAction_issue (i := .eFinalizeEnc) trivial rfl s).symm.trans ht
  rcases eFinalizeEnc_next hexec with ⟨hnc, -⟩ | ⟨-, q, (rfl | rfl) | rfl⟩
  · exact absurd hc hnc
  · exact h.abort_shared ht (by decide)
  · exact h.abort_shared ht (by decide)
  · exact h.next ht rfl rfl hon

theorem Doing.eFinalizeDec (h : Doing s (.issue .eFinalizeDec) rest) (ht : runAction (.issue .eFinalizeDec) s = .next t)
    (hc : finalizeDecContract s) (hon : OnTrack (finalizedDec s)) : DriverInv t := by
  have hexec := (runAction_issue (i := .eFinalizeDec) trivial rfl s).symm.trans ht
  rcases eFinalizeDec_next hexec with ⟨hnc, -⟩ | ⟨-, q, rfl | rfl⟩
  · exact absurd hc hnc
  · exact h.abort_shared ht (by decide)
  · exact h.next ht rfl rfl hon

theorem Doing.sRead {dst : BufId} {n : Nat} (h : Doing s (.issue (.sRead dst n)) rest)
    (ht : runAction (.issue (.sRead dst n)) s = .next t) (hn : Fits16 n) (hc : readContract dst n s)
    (hon : ∀ k st q, OnTrack (readDone dst n (s.nextInput k) st q s)) : DriverInv t := by
  have hexec := (runAction_issue (i := .sRead dst n) hn rfl s).symm.trans ht
  rcases sRead_next hexec with ⟨hnc, -⟩ | ⟨-, ⟨q, rfl⟩ | ⟨k, st, q, -, rfl | rfl⟩⟩
  · exact absurd hc hnc
  · exact h.wait ht rfl
  · exact h.next ht rfl rfl (hon k st q)
  · exact h.abort_shared ht (by decide)

theorem Doing.sWrite {src : BufId} (h : Doing s (.issue (.sWrite src)) rest)
    (ht : runAction (.issue (.sWrite src)) s = .next t) (hon : OnTrack s) : DriverInv t := by
  have hexec := (runAction_issue (i := .sWrite src) trivial rfl s).symm.trans ht
  rcases sWrite_next hexec with rfl | ⟨q, rfl⟩ | ⟨k, st, q, rfl | rfl⟩
  · exact h.next ht rfl rfl hon
  · exact h.wait ht rfl
  · exact h.next ht rfl rfl hon
  · exact h.abort_shared ht (by decide)

theorem Doing.sDiag {kind : DiagKind} (h : Doing s (.issue (.sDiag kind)) rest)
    (ht : runAction (.issue (.sDiag kind)) s = .next t) (hc : kind = .tagval → TagFull s) (hon : OnTrack s) :
    DriverInv t := by
  have hexec := (runAction_issue (i := .sDiag kind) trivial rfl s).symm.trans ht
  rcases sDiag_next hexec with ⟨hk, hlen, -⟩ | rfl
  · exact absurd (hc hk) hlen
  · exact h.next ht rfl rfl hon

/-- The other micro-operations of the driver have one answer once their contracts are met. -/
theorem Doing.ofExec {i : Instr} {v : State} (h : Doing s (.issue i) rest) (ht : runAction (.issue i) s = .next t)
    (hwf : WellFormed i) (hi : issuer i = .driver) (hexec : exec i s = .next v) (hf : v.fsm = s.fsm)
    (hr : v.result = s.result) (hon : OnTrack v) : DriverInv t := by
  have hvt : v = t := by
    have heq := (hexec.symm.trans (runAction_issue hwf hi s).symm).trans ht
    cases heq
    rfl
  subst hvt
  exact h.next ht hf hr hon

end Issued

end Sys2Proof.Machine
end

section
/-! SUPPORT. The driver's invariant through each labelled step, action by action (R171 to R179, R191 to R199, R206 to
R211). -/

namespace Sys2Proof.Machine

open Sys2Proof.Safety

/-! ### The driver's own updates -/

section Own

variable {s t : State} {rest : List Action} {l l' : Label}

theorem Doing.countOut (h : Doing s .countOut rest) (ht : runAction .countOut s = .next t) (hon : OnTrack s) :
    DriverInv t := by
  cases ht
  exact h.next (t := s.countOut) rfl rfl rfl hon

theorem Doing.markLast (h : Doing s .markLast rest) (ht : runAction .markLast s = .next t)
    (hon : OnTrack s.markLast) : DriverInv t := by
  cases ht
  exact h.next (t := s.markLast) rfl rfl rfl hon

/-- A jump to a label of the same direction, whose facts hold. -/
theorem Doing.goto (h : Doing s (.goto l) []) (ht : runAction (.goto l) s = .next t) (hl : s.label = l')
    (hsame : labelDir l = labelDir l') (hphase : PhaseAt { s with label := l } 0) : DriverInv t := by
  cases ht
  have hdir : ∀ d, labelDir l = some d → s.cmdlDir = d := fun d hd => h.dir d (by rw [hl, ← hsame, hd])
  exact h.next (t := s.goto l) rfl rfl rfl (h.onTrack_goto hdir hphase)

/-- The end of a call: everything is scrubbed, and the outcome is one of R281. -/
theorem Doing.complete {r : BitVec 8} (h : Doing s (.complete r) rest) (ht : runAction (.complete r) s = .next t)
    (hz : s.ctx = Ctx.zero ∧ s.etag = 0) (hr : r ∈ doneResults) : DriverInv t := by
  have hstruct := runAction_keeps_structInv h.struct h.busy ht
  cases ht
  obtain ⟨hctx, hetag⟩ := hz
  exact ⟨hstruct, fun _ => ⟨rfl, hctx, hetag⟩, ⟨fun hn => absurd rfl hn, fun _ => hr⟩, nofun⟩

theorem Doing.raise {c : Code} (h : Doing s (.raise c) rest) (ht : runAction (.raise c) s = .next t)
    (hc : resultByte s.cmdlDir false c ∈ doneResults) : DriverInv t := by
  cases ht
  exact h.abort (v := s) rfl hc

end Own

/-! ### Facts the steps carry -/

theorem bound_update {s : State} {d : Dir} (h : Bound s d) (x : List Byte) : Bound (s.setCtx (update s.ctx x).2) d := by
  obtain ⟨y, part, hu⟩ := update_ctx s.ctx x
  simp only [Bound, State.setCtx_ctx, hu]
  exact h

theorem updateContract_of_bound {s : State} {d : Dir} {dst src : BufId} (h : Bound s d)
    (hcap : (s.buf src).length ≤ cap s.params dst) (hne : dst ≠ src) : updateContract dst src s := by
  obtain ⟨hv, -, hx, hf⟩ := h
  exact ⟨hv, hx, hf, hcap, hne⟩

/-- What a stream delivers is as many of its bytes as were delivered. -/
theorem slice_slice_length (x : InStream) (p k : Nat) : x.slice p (x.slice p k).length = x.slice p k := by
  cases he : x.endless with
  | none => simp [slice_of_finite he, List.take_eq_take_iff]
  | some e => rw [slice_length_of_endless (by rw [he]; nofun)]

theorem held_of_empty {s : State} {r : BufId} (h : s.buf r = []) : Held s r := by
  have hnone : s.env.sIn.slice s.env.pos 0 = [] :=
    List.eq_nil_of_length_eq_zero (Nat.le_zero.mp (InStream.slice_length_le ..))
  simp only [Held, h, List.length_nil, Nat.zero_le, Nat.sub_zero, hnone, true_and]

/-- The register just read into holds the bytes before the next unread one (R25). -/
theorem held_readDone (dst : BufId) (n k : Nat) (st : RdStatus) (q : List ReadAnswer) (s : State) :
    Held (readDone dst n (s.nextInput k) st q s) dst := by
  have hbuf : (readDone dst n (s.nextInput k) st q s).buf dst = s.nextInput k := State.setBuf_buf_self ..
  rw [Held, hbuf]
  refine ⟨Nat.le_add_left .., ?_⟩
  have hpos : (readDone dst n (s.nextInput k) st q s).env.pos - (s.nextInput k).length = s.env.pos :=
    Nat.add_sub_cancel ..
  rw [hpos]
  exact (slice_slice_length s.env.sIn s.env.pos k).symm

section Limits

variable {s : State}

theorem tagLen_le_chunk (h : StructInv s) : Config.tagLen ≤ s.params.chunk := by
  obtain ⟨⟨hb, -⟩, -⟩ := h
  exact hb

theorem fits16_chunk (h : StructInv s) : Fits16 s.params.chunk := by
  obtain ⟨⟨-, hb, -⟩, -⟩ := h
  simp only [Fits16]
  omega

theorem readContract_chunk (h : StructInv s) : readContract .in_ s.params.chunk s := by
  obtain ⟨⟨hb, -⟩, -⟩ := h
  exact ⟨by omega, le_rfl⟩

theorem length_buf_le (h : StructInv s) (r : BufId) : (s.buf r).length ≤ cap s.params r := bufsFit_buf h.2.1 r

theorem fits16_x_sub (h : StructInv s) : Fits16 ((s.buf .x).length - Config.tagLen) := by
  have hx : (s.buf .x).length ≤ s.params.chunk + Config.tagLen := length_buf_le h .x
  obtain ⟨⟨-, hb, -⟩, -⟩ := h
  simp only [Fits16, Config.tagLen] at hx ⊢
  omega

end Limits

/-! ### The start (R171) -/

section Labels

variable {s t : State} {a : Action} {rest : List Action}

theorem Doing.st1 (h : Doing s a rest) (hl : s.label = .st1) (ht : runAction a s = .next t) : DriverInv t := by
  have hsuf : a :: rest <:+ stepSt1 s := h.suffix_of_label hl
  rcases suffix_cons_cases hsuf with ⟨rfl, rfl⟩ | hsuf
  · have hf : s.ctx.valid = false ∧ s.buf .lb = [] := h.facts hl
    obtain ⟨hv, hlb⟩ := hf
    exact h.eInit ht (field_lt s.cmdl 0 16) hv fun klen =>
      h.onTrack_same hl hl rfl h.pending rfl ⟨⟨rfl, rfl, rfl, rfl⟩, hlb⟩
  rcases suffix_cons_cases hsuf with ⟨rfl, rfl⟩ | hsuf
  · have hf : Bound s s.cmdlDir ∧ s.buf .lb = [] := h.facts hl
    exact h.sDiag ht nofun (h.onTrack_same hl hl rfl h.pending rfl hf)
  rcases suffix_cons_cases hsuf with ⟨rfl, rfl⟩ | hsuf
  · have hf : Bound s s.cmdlDir ∧ s.buf .lb = [] := h.facts hl
    obtain ⟨hb, hlb⟩ := hf
    cases hd : s.cmdlDir with
    | enc =>
      simp only [hd] at h ht hb
      cases ht
      have hdir : ∀ d, labelDir .en1 = some d → s.cmdlDir = d := fun d hld => hd.trans (Option.some.inj hld)
      exact h.next (t := s.goto .en1) rfl rfl rfl (h.onTrack_goto hdir hb)
    | dec =>
      simp only [hd] at h ht hb
      cases ht
      have hdir : ∀ d, labelDir .de1 = some d → s.cmdlDir = d := fun d hld => hd.trans (Option.some.inj hld)
      exact h.next (t := s.goto .de1) rfl rfl rfl
        (h.onTrack_goto hdir ⟨⟨hb, .inl hlb⟩, fun _ => held_of_empty hlb⟩)
  exact absurd hsuf not_cons_suffix_nil

/-! ### Encryption (R173 to R179) -/

theorem Doing.en1 (h : Doing s a rest) (hl : s.label = .en1) (ht : runAction a s = .next t) : DriverInv t := by
  have hb : Bound s .enc := h.facts hl
  have hsuf : a :: rest <:+ stepEn1 s := h.suffix_of_label hl
  rcases suffix_cons_cases hsuf with ⟨rfl, rfl⟩ | hsuf
  · exact h.sRead ht (fits16_chunk h.struct) (readContract_chunk h.struct) fun k st q =>
      h.onTrack_same hl hl rfl h.pending rfl hb
  rcases suffix_cons_cases hsuf with ⟨rfl, rfl⟩ | hsuf
  · exact h.markLast ht (h.onTrack_same hl hl rfl h.pending rfl hb)
  rcases suffix_cons_cases hsuf with ⟨rfl, rfl⟩ | hsuf
  · exact h.goto ht hl rfl hb
  exact absurd hsuf not_cons_suffix_nil

theorem Doing.en2 (h : Doing s a rest) (hl : s.label = .en2) (ht : runAction a s = .next t) : DriverInv t := by
  have hb : Bound s .enc := h.facts hl
  have hsuf : a :: rest <:+ stepEn2 := h.suffix_of_label hl
  rcases suffix_cons_cases hsuf with ⟨rfl, rfl⟩ | hsuf
  · exact h.eUpdate ht (updateContract_of_bound hb (length_buf_le h.struct .in_) (by decide)) fun o =>
      h.onTrack_same hl hl rfl h.pending rfl (bound_update hb _)
  rcases suffix_cons_cases hsuf with ⟨rfl, rfl⟩ | hsuf
  · exact h.countOut ht (h.onTrack_same hl hl rfl h.pending rfl hb)
  rcases suffix_cons_cases hsuf with ⟨rfl, rfl⟩ | hsuf
  · exact h.goto ht hl rfl hb
  exact absurd hsuf not_cons_suffix_nil

theorem Doing.en3 (h : Doing s a rest) (hl : s.label = .en3) (ht : runAction a s = .next t) : DriverInv t := by
  have hb : Bound s .enc := h.facts hl
  have hsuf : a :: rest <:+ stepEn3 := h.suffix_of_label hl
  rcases suffix_cons_cases hsuf with ⟨rfl, rfl⟩ | hsuf
  · exact h.sWrite ht (h.onTrack_same hl hl rfl h.pending rfl hb)
  rcases suffix_cons_cases hsuf with ⟨rfl, rfl⟩ | hsuf
  · exact h.goto ht hl rfl hb
  exact absurd hsuf not_cons_suffix_nil

theorem Doing.en4 (h : Doing s a rest) (hl : s.label = .en4) (ht : runAction a s = .next t) : DriverInv t := by
  have hb : Bound s .enc := h.facts hl
  have hsuf : a :: rest <:+ stepEn4 s := h.suffix_of_label hl
  rcases suffix_cons_cases hsuf with ⟨rfl, rfl⟩ | hsuf
  · cases hlast : s.last with
    | false =>
      rw [hlast] at h ht
      exact h.goto ht hl rfl hb
    | true =>
      rw [hlast] at h ht
      exact h.goto ht hl rfl hb
  exact absurd hsuf not_cons_suffix_nil

theorem Doing.en5 (h : Doing s a rest) (hl : s.label = .en5) (ht : runAction a s = .next t) : DriverInv t := by
  have hsuf : a :: rest <:+ stepEn5 := h.suffix_of_label hl
  rcases suffix_cons_cases hsuf with ⟨rfl, rfl⟩ | hsuf
  · have hb : Bound s .enc := h.facts hl
    obtain ⟨hv, hd, -, hf⟩ := hb
    exact h.eFinalizeEnc ht ⟨hv, hd, hf⟩ (h.onTrack_same hl hl rfl h.pending rfl trivial)
  rcases suffix_cons_cases hsuf with ⟨rfl, rfl⟩ | hsuf
  · have hexec := (exec_bFromArray .tag s).trans (if_pos rfl)
    exact h.ofExec ht trivial rfl hexec rfl rfl (h.onTrack_same hl hl rfl h.pending rfl (blockBytes_length s.etag))
  rcases suffix_cons_cases hsuf with ⟨rfl, rfl⟩ | hsuf
  · have hf : TagFull s := h.facts hl
    exact h.goto ht hl rfl hf
  exact absurd hsuf not_cons_suffix_nil

theorem Doing.en6 (h : Doing s a rest) (hl : s.label = .en6) (ht : runAction a s = .next t) : DriverInv t := by
  have hf : TagFull s := h.facts hl
  have hsuf : a :: rest <:+ stepEn6 := h.suffix_of_label hl
  rcases suffix_cons_cases hsuf with ⟨rfl, rfl⟩ | hsuf
  · exact h.sWrite ht (h.onTrack_same hl hl rfl h.pending rfl hf)
  rcases suffix_cons_cases hsuf with ⟨rfl, rfl⟩ | hsuf
  · exact h.goto ht hl rfl hf
  exact absurd hsuf not_cons_suffix_nil

theorem Doing.en7 (h : Doing s a rest) (hl : s.label = .en7) (ht : runAction a s = .next t) : DriverInv t := by
  have hsuf : a :: rest <:+ stepEn7 := h.suffix_of_label hl
  rcases suffix_cons_cases hsuf with ⟨rfl, rfl⟩ | hsuf
  · have hf : TagFull s := h.facts hl
    exact h.sDiag ht nofun (h.onTrack_same hl hl rfl h.pending rfl hf)
  rcases suffix_cons_cases hsuf with ⟨rfl, rfl⟩ | hsuf
  · have hf : TagFull s := h.facts hl
    exact h.sDiag ht (fun _ => hf) (h.onTrack_same hl hl rfl h.pending rfl hf)
  rcases suffix_cons_cases hsuf with ⟨rfl, rfl⟩ | hsuf
  · exact h.ofExec ht trivial rfl (exec_eRelease s) rfl rfl (h.onTrack_same hl hl rfl h.pending rfl ⟨rfl, rfl⟩)
  rcases suffix_cons_cases hsuf with ⟨rfl, rfl⟩ | hsuf
  · have hz : s.ctx = Ctx.zero ∧ s.etag = 0 := h.facts hl
    exact h.complete ht hz (by decide)
  exact absurd hsuf not_cons_suffix_nil

/-! ### The decryption loop (R191 to R199) -/

theorem Doing.de1 (h : Doing s a rest) (hl : s.label = .de1) (ht : runAction a s = .next t) : DriverInv t := by
  have hsuf : a :: rest <:+ stepDe1 s := h.suffix_of_label hl
  rcases suffix_cons_cases hsuf with ⟨rfl, rfl⟩ | hsuf
  · have hf : Decrypting s ∧ (2 ≠ 1 → Held s .lb) := h.facts hl
    obtain ⟨hdec, -⟩ := hf
    exact h.sRead ht (fits16_chunk h.struct) (readContract_chunk h.struct) fun k st q =>
      h.onTrack_same hl hl rfl h.pending rfl ⟨hdec, fun hm => absurd rfl hm⟩
  rcases suffix_cons_cases hsuf with ⟨rfl, rfl⟩ | hsuf
  · have hf : Decrypting s ∧ (1 ≠ 1 → Held s .lb) := h.facts hl
    obtain ⟨hdec, -⟩ := hf
    exact h.goto ht hl rfl hdec
  exact absurd hsuf not_cons_suffix_nil

theorem Doing.de2 (h : Doing s a rest) (hl : s.label = .de2) (ht : runAction a s = .next t) : DriverInv t := by
  have hdec : Decrypting s := h.facts hl
  have hsuf : a :: rest <:+ stepDe2 s := h.suffix_of_label hl
  rcases suffix_cons_cases hsuf with ⟨rfl, rfl⟩ | hsuf
  · by_cases hfull : (s.buf .in_).length = s.params.chunk
    · rw [if_pos hfull] at h ht
      exact h.goto ht hl rfl ⟨hdec, fun hm => absurd hm (by decide)⟩
    · rw [if_neg hfull] at h ht
      exact h.goto ht hl rfl hdec
  exact absurd hsuf not_cons_suffix_nil

theorem Doing.de3 (h : Doing s a rest) (hl : s.label = .de3) (ht : runAction a s = .next t) : DriverInv t := by
  have hsuf : a :: rest <:+ stepDe3 := h.suffix_of_label hl
  rcases suffix_cons_cases hsuf with ⟨rfl, rfl⟩ | hsuf
  · have hf : Decrypting s ∧ (5 = 1 → s.buf .lb = []) := h.facts hl
    obtain ⟨⟨hb, hlb⟩, -⟩ := hf
    have hcap := (length_buf_le h.struct .lb).trans (tagLen_le_chunk h.struct)
    exact h.eUpdate ht (updateContract_of_bound hb hcap (by decide)) fun o =>
      h.onTrack_same hl hl rfl h.pending rfl ⟨⟨bound_update hb _, hlb⟩, fun hm => absurd hm (by decide)⟩
  rcases suffix_cons_cases hsuf with ⟨rfl, rfl⟩ | hsuf
  · have hf : Decrypting s ∧ (4 = 1 → s.buf .lb = []) := h.facts hl
    obtain ⟨hdec, -⟩ := hf
    exact h.countOut ht (h.onTrack_same hl hl rfl h.pending rfl ⟨hdec, fun hm => absurd hm (by decide)⟩)
  rcases suffix_cons_cases hsuf with ⟨rfl, rfl⟩ | hsuf
  · have hf : Decrypting s ∧ (3 = 1 → s.buf .lb = []) := h.facts hl
    obtain ⟨hdec, -⟩ := hf
    exact h.sWrite ht (h.onTrack_same hl hl rfl h.pending rfl ⟨hdec, fun hm => absurd hm (by decide)⟩)
  rcases suffix_cons_cases hsuf with ⟨rfl, rfl⟩ | hsuf
  · have hf : Decrypting s ∧ (2 = 1 → s.buf .lb = []) := h.facts hl
    obtain ⟨⟨hb, -⟩, -⟩ := hf
    exact h.ofExec ht trivial rfl (exec_bEmpty .lb s) rfl rfl
      (h.onTrack_same hl hl rfl h.pending rfl ⟨⟨hb, .inl rfl⟩, fun _ => rfl⟩)
  rcases suffix_cons_cases hsuf with ⟨rfl, rfl⟩ | hsuf
  · have hf : Decrypting s ∧ (1 = 1 → s.buf .lb = []) := h.facts hl
    obtain ⟨hdec, hlb⟩ := hf
    exact h.goto ht hl rfl ⟨hdec, hlb rfl, fun hm => absurd hm (by decide)⟩
  exact absurd hsuf not_cons_suffix_nil

theorem Doing.de4 (h : Doing s a rest) (hl : s.label = .de4) (ht : runAction a s = .next t) : DriverInv t := by
  have hsuf : a :: rest <:+ stepDe4 := h.suffix_of_label hl
  rcases suffix_cons_cases hsuf with ⟨rfl, rfl⟩ | hsuf
  · have hf : Decrypting s ∧ s.buf .lb = [] ∧ (2 = 1 → Held s .la) := h.facts hl
    obtain ⟨hdec, hlb, -⟩ := hf
    exact h.sRead ht (by decide) ⟨by decide, le_rfl⟩ fun k st q =>
      h.onTrack_same hl hl rfl h.pending rfl ⟨hdec, hlb, fun _ => held_readDone .la Config.tagLen k st q s⟩
  rcases suffix_cons_cases hsuf with ⟨rfl, rfl⟩ | hsuf
  · have hf : Decrypting s ∧ s.buf .lb = [] ∧ (1 = 1 → Held s .la) := h.facts hl
    obtain ⟨hdec, hlb, hla⟩ := hf
    exact h.goto ht hl rfl ⟨hdec, hlb, hla rfl⟩
  exact absurd hsuf not_cons_suffix_nil

theorem Doing.de5 (h : Doing s a rest) (hl : s.label = .de5) (ht : runAction a s = .next t) : DriverInv t := by
  have hf : Decrypting s ∧ s.buf .lb = [] ∧ Held s .la := h.facts hl
  obtain ⟨hdec, hlb, hla⟩ := hf
  have hsuf : a :: rest <:+ stepDe5 s := h.suffix_of_label hl
  rcases suffix_cons_cases hsuf with ⟨rfl, rfl⟩ | hsuf
  · by_cases hfull : (s.buf .la).length = Config.tagLen
    · rw [if_pos hfull] at h ht
      exact h.goto ht hl rfl ⟨hdec, hlb, hfull, hla⟩
    · rw [if_neg hfull] at h ht
      exact h.goto ht hl rfl hdec
  exact absurd hsuf not_cons_suffix_nil

theorem Doing.de6 (h : Doing s a rest) (hl : s.label = .de6) (ht : runAction a s = .next t) : DriverInv t := by
  have hf : Decrypting s ∧ s.buf .lb = [] ∧ (s.buf .la).length = Config.tagLen ∧ Held s .la := h.facts hl
  obtain ⟨⟨hb, hlbok⟩, hlb, hfull, hla⟩ := hf
  have hsuf : a :: rest <:+ stepDe6 := h.suffix_of_label hl
  rcases suffix_cons_cases hsuf with ⟨rfl, rfl⟩ | hsuf
  · exact h.eUpdate ht (updateContract_of_bound hb (length_buf_le h.struct .in_) (by decide)) fun o =>
      h.onTrack_same hl hl rfl h.pending rfl ⟨⟨bound_update hb _, hlbok⟩, hlb, hfull, hla⟩
  rcases suffix_cons_cases hsuf with ⟨rfl, rfl⟩ | hsuf
  · exact h.countOut ht (h.onTrack_same hl hl rfl h.pending rfl ⟨⟨hb, hlbok⟩, hlb, hfull, hla⟩)
  rcases suffix_cons_cases hsuf with ⟨rfl, rfl⟩ | hsuf
  · exact h.sWrite ht (h.onTrack_same hl hl rfl h.pending rfl ⟨⟨hb, hlbok⟩, hlb, hfull, hla⟩)
  rcases suffix_cons_cases hsuf with ⟨rfl, rfl⟩ | hsuf
  · exact h.goto ht hl rfl ⟨⟨hb, hlbok⟩, hfull, hla, fun hm => absurd hm (by decide)⟩
  exact absurd hsuf not_cons_suffix_nil

theorem Doing.de7 (h : Doing s a rest) (hl : s.label = .de7) (ht : runAction a s = .next t) : DriverInv t := by
  have hsuf : a :: rest <:+ stepDe7 := h.suffix_of_label hl
  rcases suffix_cons_cases hsuf with ⟨rfl, rfl⟩ | hsuf
  · have hf : Decrypting s ∧ (s.buf .la).length = Config.tagLen ∧ Held s .la ∧ (2 = 1 → Held s .lb) := h.facts hl
    obtain ⟨⟨hb, -⟩, hfull, hla, -⟩ := hf
    have hexec := (exec_bCopy .lb .la s).trans (assign_eq hfull.le)
    exact h.ofExec ht trivial rfl hexec rfl rfl
      (h.onTrack_same hl hl rfl h.pending rfl ⟨⟨hb, .inr hfull⟩, hfull, hla, fun _ => hla⟩)
  rcases suffix_cons_cases hsuf with ⟨rfl, rfl⟩ | hsuf
  · have hf : Decrypting s ∧ (s.buf .la).length = Config.tagLen ∧ Held s .la ∧ (1 = 1 → Held s .lb) := h.facts hl
    obtain ⟨hdec, -, -, hlb⟩ := hf
    exact h.goto ht hl rfl ⟨hdec, fun _ => hlb rfl⟩
  exact absurd hsuf not_cons_suffix_nil

theorem Doing.de8 (h : Doing s a rest) (hl : s.label = .de8) (ht : runAction a s = .next t) : DriverInv t := by
  have hdec : Decrypting s := h.facts hl
  have hsuf : a :: rest <:+ stepDe8 := h.suffix_of_label hl
  rcases suffix_cons_cases hsuf with ⟨rfl, rfl⟩ | hsuf
  · have hexec := exec_bConcat_of_cap_add_eq h.struct.2.1 (cap_in_add_cap_la _)
    exact h.ofExec ht trivial rfl hexec rfl rfl (h.onTrack_same hl hl rfl h.pending rfl hdec)
  rcases suffix_cons_cases hsuf with ⟨rfl, rfl⟩ | hsuf
  · exact h.goto ht hl rfl hdec
  exact absurd hsuf not_cons_suffix_nil

theorem Doing.de9 (h : Doing s a rest) (hl : s.label = .de9) (ht : runAction a s = .next t) : DriverInv t := by
  have hdec : Decrypting s := h.facts hl
  have hsuf : a :: rest <:+ stepDe9 := h.suffix_of_label hl
  rcases suffix_cons_cases hsuf with ⟨rfl, rfl⟩ | hsuf
  · have hexec := exec_bConcat_of_cap_add_eq h.struct.2.1 (cap_lb_add_cap_in _)
    exact h.ofExec ht trivial rfl hexec rfl rfl (h.onTrack_same hl hl rfl h.pending rfl hdec)
  rcases suffix_cons_cases hsuf with ⟨rfl, rfl⟩ | hsuf
  · exact h.goto ht hl rfl hdec
  exact absurd hsuf not_cons_suffix_nil

/-! ### The finalize steps (R206 to R211) -/

theorem Doing.df1 (h : Doing s a rest) (hl : s.label = .df1) (ht : runAction a s = .next t) : DriverInv t := by
  have hdec : Decrypting s := h.facts hl
  have hsuf : a :: rest <:+ stepDf1 s := h.suffix_of_label hl
  rcases suffix_cons_cases hsuf with ⟨rfl, rfl⟩ | hsuf
  · by_cases hshort : (s.buf .x).length < Config.tagLen
    · rw [if_pos hshort] at h ht
      have hdir : s.cmdlDir = .dec := h.cmdlDir_eq (by rw [hl]; rfl)
      exact h.raise ht (by rw [hdir]; decide)
    · rw [if_neg hshort] at h ht
      exact h.goto ht hl rfl ⟨hdec, Nat.not_lt.mp hshort, fun hm => absurd hm (by decide)⟩
  exact absurd hsuf not_cons_suffix_nil

theorem Doing.df2 (h : Doing s a rest) (hl : s.label = .df2) (ht : runAction a s = .next t) : DriverInv t := by
  have hsuf : a :: rest <:+ stepDf2 s := h.suffix_of_label hl
  rcases suffix_cons_cases hsuf with ⟨rfl, rfl⟩ | hsuf
  · have hf : Decrypting s ∧ Config.tagLen ≤ (s.buf .x).length ∧ (3 = 1 → TagFull s) := h.facts hl
    obtain ⟨hdec, hx, -⟩ := hf
    have hcap : (s.buf .x).length - Config.tagLen ≤ cap s.params .ct :=
      Nat.sub_le_of_le_add (length_buf_le h.struct .x)
    have hexec := exec_next_of_guarded_assign (exec_bHead .ct .x _ s) List.length_take_of_le (Nat.sub_le ..) hcap
    exact h.ofExec ht (fits16_x_sub h.struct) rfl hexec rfl rfl
      (h.onTrack_same hl hl rfl h.pending rfl ⟨hdec, hx, fun hm => absurd hm (by decide)⟩)
  rcases suffix_cons_cases hsuf with ⟨rfl, rfl⟩ | hsuf
  · have hf : Decrypting s ∧ Config.tagLen ≤ (s.buf .x).length ∧ (2 = 1 → TagFull s) := h.facts hl
    obtain ⟨hdec, hx, -⟩ := hf
    have hexec := exec_next_of_guarded_assign (exec_bTail .tag .x _ s) length_drop_sub hx le_rfl
    exact h.ofExec ht (show Fits16 Config.tagLen by decide) rfl hexec rfl rfl
      (h.onTrack_same hl hl rfl h.pending rfl ⟨hdec, hx, fun _ => length_drop_sub hx⟩)
  rcases suffix_cons_cases hsuf with ⟨rfl, rfl⟩ | hsuf
  · have hf : Decrypting s ∧ Config.tagLen ≤ (s.buf .x).length ∧ (1 = 1 → TagFull s) := h.facts hl
    obtain ⟨hdec, -, htag⟩ := hf
    exact h.goto ht hl rfl ⟨hdec, htag rfl⟩
  exact absurd hsuf not_cons_suffix_nil

theorem Doing.df3 (h : Doing s a rest) (hl : s.label = .df3) (ht : runAction a s = .next t) : DriverInv t := by
  have hf : Decrypting s ∧ TagFull s := h.facts hl
  obtain ⟨⟨hb, hlb⟩, htag⟩ := hf
  have hsuf : a :: rest <:+ stepDf3 := h.suffix_of_label hl
  rcases suffix_cons_cases hsuf with ⟨rfl, rfl⟩ | hsuf
  · exact h.eUpdate ht (updateContract_of_bound hb (length_buf_le h.struct .ct) (by decide)) fun o =>
      h.onTrack_same hl hl rfl h.pending rfl ⟨⟨bound_update hb _, hlb⟩, htag⟩
  rcases suffix_cons_cases hsuf with ⟨rfl, rfl⟩ | hsuf
  · exact h.countOut ht (h.onTrack_same hl hl rfl h.pending rfl ⟨⟨hb, hlb⟩, htag⟩)
  rcases suffix_cons_cases hsuf with ⟨rfl, rfl⟩ | hsuf
  · exact h.sWrite ht (h.onTrack_same hl hl rfl h.pending rfl ⟨⟨hb, hlb⟩, htag⟩)
  rcases suffix_cons_cases hsuf with ⟨rfl, rfl⟩ | hsuf
  · exact h.goto ht hl rfl ⟨htag, hb, hlb⟩
  exact absurd hsuf not_cons_suffix_nil

theorem Doing.df4 (h : Doing s a rest) (hl : s.label = .df4) (ht : runAction a s = .next t) : DriverInv t := by
  have hsuf : a :: rest <:+ stepDf4 := h.suffix_of_label hl
  rcases suffix_cons_cases hsuf with ⟨rfl, rfl⟩ | hsuf
  · have hf : TagFull s ∧ Decrypting s := h.facts hl
    obtain ⟨htag, ⟨hv, hd, -, hfin⟩, hlb⟩ := hf
    exact h.ofExec ht trivial rfl (exec_eSetTag_of_contract ⟨hv, hd, hfin, htag⟩) rfl rfl
      (h.onTrack_same hl hl rfl h.pending rfl ⟨htag, ⟨hv, hd, rfl, hfin⟩, hlb⟩)
  rcases suffix_cons_cases hsuf with ⟨rfl, rfl⟩ | hsuf
  · have hf : TagFull s ∧ TagExpected s := h.facts hl
    obtain ⟨htag, hexp⟩ := hf
    exact h.goto ht hl rfl ⟨htag, fun _ => hexp⟩
  exact absurd hsuf not_cons_suffix_nil

theorem Doing.df5 (h : Doing s a rest) (hl : s.label = .df5) (ht : runAction a s = .next t) : DriverInv t := by
  have hsuf : a :: rest <:+ stepDf5 := h.suffix_of_label hl
  rcases suffix_cons_cases hsuf with ⟨rfl, rfl⟩ | hsuf
  · have hf : TagFull s ∧ (2 ≠ 1 → TagExpected s) := h.facts hl
    obtain ⟨htag, hexp⟩ := hf
    obtain ⟨hc, -⟩ := hexp (by decide)
    exact h.eFinalizeDec ht hc (h.onTrack_same hl hl rfl h.pending rfl ⟨htag, fun hm => absurd rfl hm⟩)
  rcases suffix_cons_cases hsuf with ⟨rfl, rfl⟩ | hsuf
  · have hf : TagFull s ∧ (1 ≠ 1 → TagExpected s) := h.facts hl
    obtain ⟨htag, -⟩ := hf
    exact h.goto ht hl rfl htag
  exact absurd hsuf not_cons_suffix_nil

theorem Doing.df6 (h : Doing s a rest) (hl : s.label = .df6) (ht : runAction a s = .next t) : DriverInv t := by
  have hsuf : a :: rest <:+ stepDf6 s := h.suffix_of_label hl
  rcases suffix_cons_cases hsuf with ⟨rfl, rfl⟩ | hsuf
  · have hf : TagFull s := h.facts hl
    exact h.sDiag ht nofun (h.onTrack_same hl hl rfl h.pending rfl hf)
  rcases suffix_cons_cases hsuf with ⟨rfl, rfl⟩ | hsuf
  · have hf : TagFull s := h.facts hl
    exact h.sDiag ht (fun _ => hf) (h.onTrack_same hl hl rfl h.pending rfl hf)
  rcases suffix_cons_cases hsuf with ⟨rfl, rfl⟩ | hsuf
  · exact h.ofExec ht trivial rfl (exec_eRelease s) rfl rfl (h.onTrack_same hl hl rfl h.pending rfl ⟨rfl, rfl⟩)
  rcases suffix_cons_cases hsuf with ⟨rfl, rfl⟩ | hsuf
  · have hz : s.ctx = Ctx.zero ∧ s.etag = 0 := h.facts hl
    exact h.complete ht hz (by split <;> decide)
  exact absurd hsuf not_cons_suffix_nil

/-- Every action of the driver keeps its invariant. -/
theorem Doing.driverInv (h : Doing s a rest) (ht : runAction a s = .next t) : DriverInv t := by
  cases hl : s.label with
  | st0 => exact (h.facts hl).elim
  | st1 => exact h.st1 hl ht
  | en1 => exact h.en1 hl ht
  | en2 => exact h.en2 hl ht
  | en3 => exact h.en3 hl ht
  | en4 => exact h.en4 hl ht
  | en5 => exact h.en5 hl ht
  | en6 => exact h.en6 hl ht
  | en7 => exact h.en7 hl ht
  | de1 => exact h.de1 hl ht
  | de2 => exact h.de2 hl ht
  | de3 => exact h.de3 hl ht
  | de4 => exact h.de4 hl ht
  | de5 => exact h.de5 hl ht
  | de6 => exact h.de6 hl ht
  | de7 => exact h.de7 hl ht
  | de8 => exact h.de8 hl ht
  | de9 => exact h.de9 hl ht
  | df1 => exact h.df1 hl ht
  | df2 => exact h.df2 hl ht
  | df3 => exact h.df3 hl ht
  | df4 => exact h.df4 hl ht
  | df5 => exact h.df5 hl ht
  | df6 => exact h.df6 hl ht

end Labels

end Sys2Proof.Machine
end

section
/-! SUPPORT. The driver's invariant through what happens between driver steps: reset, the host's accesses, the taking up
of the next step (R31, R41, R42, R170, R321, R326). -/

namespace Sys2Proof.Machine

open Sys2Proof.Safety

section Between

variable {s t : State}

/-- The first action left of a driver step is under way once it is taken off. -/
theorem doing_of_driverInv {a : Action} {rest : List Action} (h : DriverInv s) (hp : s.pending = a :: rest)
    (hs : List HostEvent) : Doing ((s.setPending rest).setHost hs) a rest := by
  obtain ⟨hstruct, -, ⟨hrunning, -⟩, hon⟩ := h
  have hbusy := busy_of_pending hstruct hp
  obtain ⟨hsuffix, hdir, hphase⟩ := hon hbusy
  rw [hp] at hsuffix hphase
  exact ⟨structInv_setEnv (structInv_setPending hstruct hbusy rest) _, hbusy, hrunning (by rw [hbusy]; decide), rfl,
    hsuffix, hdir, hphase⟩

theorem driverInv_setHost (h : DriverInv s) (hs : List HostEvent) : DriverInv (s.setHost hs) := h

theorem driverInv_saw (h : DriverInv s) (x : HostSeen) : DriverInv (s.saw x) := h

/-- At rest only what is left of a call, and its outcome, matter. -/
theorem driverInv_at_rest (h : DriverInv s) (hf : s.fsm ≠ .streaming) (hs : StructInv t) (hft : t.fsm = s.fsm)
    (hr : t.result = s.result) (hb : t.bufs = s.bufs) (hc : t.ctx = s.ctx) (he : t.etag = s.etag) : DriverInv t := by
  obtain ⟨-, hclean, hres, -⟩ := h
  refine ⟨hs, fun _ => ?_, ?_, fun hbusy => absurd (hft.symm.trans hbusy) hf⟩
  · rw [Clean, hb, hc, he]
    exact hclean hf
  · rw [ResultOk, hft, hr]
    exact hres

theorem driverInv_loadKeyBytes (h : DriverInv s) (i : Nat) (bytes : List Byte) :
    DriverInv (loadKeyBytes i bytes s) := by
  have hs := structInv_loadKeyBytes h.1 i bytes
  unfold loadKeyBytes at hs ⊢
  split
  next => exact h
  next hf =>
    rw [if_neg hf] at hs
    exact driverInv_at_rest h hf hs rfl rfl rfl rfl rfl

theorem driverInv_loadIvBytes (h : DriverInv s) (i : Nat) (bytes : List Byte) : DriverInv (loadIvBytes i bytes s) := by
  have hs := structInv_loadIvBytes h.1 i bytes
  unfold loadIvBytes at hs ⊢
  split
  next => exact h
  next hf =>
    rw [if_neg hf] at hs
    exact driverInv_at_rest h hf hs rfl rfl rfl rfl rfl

theorem driverInv_hostLoadKey (h : DriverInv s) (text : List Char) (z : KeySize) :
    DriverInv (hostLoadKey text z s) := by
  unfold hostLoadKey
  split
  next => exact driverInv_saw h _
  next => exact driverInv_saw (driverInv_loadIvBytes (driverInv_loadKeyBytes h _ _) _ _) _

theorem driverInv_presentStreams (h : DriverInv s) (x : InStream) : DriverInv (presentStreams x s) := by
  unfold presentStreams
  split
  next => exact h
  next hf => exact driverInv_at_rest h hf (structInv_setEnv h.1 _) rfl rfl rfl rfl rfl

theorem driverInv_resetInput (h : DriverInv s) (moved : Nat) : DriverInv (resetInput moved s) :=
  ⟨structInv_resetInput h.1 moved, fun _ => ⟨rfl, rfl, rfl⟩, ⟨fun _ => rfl, nofun⟩, nofun⟩

/-- A command that is accepted puts the driver at `ST1`, with an empty lookbehind and no context. -/
theorem driverInv_accepted (h : DriverInv s) (hf : s.fsm ≠ .streaming) (w : Word) :
    DriverInv { beginCall s with cmdl := w, label := .st1 } := by
  obtain ⟨hstruct, hclean, -, -⟩ := h
  obtain ⟨-, hctx, -⟩ := hclean hf
  have hp : s.pending = [] := by
    obtain ⟨-, -, -, -, -, hrest⟩ := hstruct
    exact (hrest hf).1
  have hv : s.ctx.valid = false := by rw [hctx]; rfl
  refine ⟨structInv_beginCall hstruct w .st1, fun hn => absurd rfl hn, ⟨fun _ => rfl, nofun⟩, fun _ => ⟨?_, nofun, ?_⟩⟩
  · exact hp ▸ List.nil_suffix
  · rw [show ({ beginCall s with cmdl := w, label := .st1 } : State).pending = [] from hp]
    exact ⟨hv, rfl⟩

theorem commandWord_keeps_driverInv {w : Word} (h : DriverInv s) (ht : commandWord w s = .next t) : DriverInv t := by
  by_cases hf : s.fsm = .streaming
  · cases (commandWord_of_busy hf w).symm.trans ht
    exact h
  · have hreject {u : State} (hu : rejectCommand s = .next u) : DriverInv u := by
      cases (rejectCommand_of_not_busy hf).symm.trans hu
      exact driverInv_abort (structInv_abort (structInv_beginCall h.1 0 .st0) _)
        (by decide : resultByte (dirOf 0) false .usageError ∈ doneResults)
    rw [commandWord] at ht
    split at ht
    next i _ =>
      split at ht
      next hi =>
        rw [exec_of_host hi, acceptCommand_of_not_busy hf] at ht
        cases ht
        exact driverInv_accepted h hf _
      next => exact hreject ht
    next => exact hreject ht

/-- Before a step begins its facts are those of the whole step left. -/
theorem phaseAt_driverStep (h : PhaseAt s 0) : PhaseAt s (driverStep s).length := by
  cases hl : s.label with
  | st0 => exact ((phaseAt_iff hl 0).mp h).elim
  | de1 | de3 | de4 | de7 | df2 | df5 =>
    simpa [PhaseAt, driverStep, hl, stepDe1, stepDe3, stepDe4, stepDe7, stepDf2, stepDf5] using h
  | _ =>
    simp only [PhaseAt, driverStep, hl] at h ⊢
    exact h

theorem driverInv_advanceDriver (h : DriverInv s) (hp : s.pending = []) : DriverInv (advanceDriver s) := by
  have hs := structInv_advanceDriver h.1
  unfold advanceDriver at hs ⊢
  split
  next hf =>
    rw [if_pos hf] at hs
    obtain ⟨-, -, hres, hon⟩ := h
    obtain ⟨-, hdir, hphase⟩ := hon hf
    rw [hp] at hphase
    exact ⟨hs, fun hn => absurd hf hn, hres, fun _ => ⟨List.suffix_refl _, hdir, phaseAt_driverStep hphase⟩⟩
  next => exact h

theorem runHostEvent_keeps_driverInv {e : HostEvent} (h : DriverInv s) (hp : s.pending = [])
    (ht : runHostEvent e s = .next t) : DriverInv t := by
  cases e with
  | writeCmd w => exact commandWord_keeps_driverInv h ht
  | writeKey i bytes =>
    cases ht
    exact driverInv_loadKeyBytes h i bytes
  | writeIv i bytes =>
    cases ht
    exact driverInv_loadIvBytes h i bytes
  | writeOther num value =>
    cases ht
    exact h
  | readReg num =>
    cases ht
    exact driverInv_saw h _
  | loadKey text z =>
    cases ht
    exact driverInv_hostLoadKey h text z
  | present x =>
    cases ht
    exact driverInv_presentStreams h x
  | nothing =>
    cases ht
    exact driverInv_advanceDriver h hp
  | reset moved =>
    cases ht
    exact driverInv_resetInput h moved

end Between

/-! ### Runs -/

theorem run_induction {P : State → Prop} (hstep : ∀ s t, P s → step s = .next t → P t) :
    ∀ (n : Nat) {s t : State}, P s → Sys2Proof.core.run n s = .next t → P t
  | 0, _, _, hs, ht => by
    cases ht
    exact hs
  | n + 1, s, t, hs, ht => by
    cases hu : step s with
    | next u =>
      rw [run_succ_of_step hu] at ht
      exact run_induction hstep n (hstep s u hs hu) ht
    | fault f =>
      have hrun : Sys2Proof.core.run (n + 1) s = .fault f := by simp only [Host.Core.run, Sys2Proof.core, hu]
      cases hrun.symm.trans ht
    | refused r =>
      have hrun : Sys2Proof.core.run (n + 1) s = .refused r := by simp only [Host.Core.run, Sys2Proof.core, hu]
      cases hrun.symm.trans ht

/-- Bit 4 of an outcome of the driver is set in 0x30 alone, and none has the code of a contract violation. -/
theorem doneResults_facts : ∀ r ∈ (0x0F :: doneResults : List (BitVec 8)),
    resultCode r ≠ Code.contractViolation.num ∧ (r.getLsbD 4 = true → r = 0x30) := by decide

theorem result_mem_of_driverInv {s : State} (h : DriverInv s) : s.result ∈ (0x0F :: doneResults : List (BitVec 8)) := by
  obtain ⟨-, -, ⟨hrunning, hdone⟩, -⟩ := h
  by_cases hf : s.fsm = .done
  · exact List.mem_cons_of_mem _ (hdone hf)
  · rw [hrunning hf]
    exact List.mem_cons_self

end Sys2Proof.Machine
end

section
/-! The obligations on the driver's invariant (R25, R44, R52, R215, R281, R291). -/

namespace Sys2Proof.Certificates

open Sys2Proof.Machine Sys2Proof.Safety

/-- Settles O19: an action of the driver keeps the invariant whatever the ports answer, and so does every event between
driver steps. -/
theorem stepKeepsDriverInv : Obligations.StepKeepsDriverInv := by
  intro s t h ht
  rcases step_cases s with ⟨moved, hs, -, hstep⟩ | ⟨a, rest, hs, hp, hstep⟩ | ⟨e, hs, hp, -, hstep⟩ | ⟨hp, hstep⟩
  all_goals rw [hstep] at ht
  · cases ht
    exact driverInv_resetInput (driverInv_setHost h hs) moved
  · exact (doing_of_driverInv h hp hs).driverInv ht
  · exact runHostEvent_keeps_driverInv (driverInv_setHost h hs) hp ht
  · cases ht
    exact driverInv_advanceDriver h hp

/-- Settles O20, by O19 along the run and the list of outcomes. -/
theorem runsNeverViolateAndAlwaysScrub : Obligations.RunsNeverViolateAndAlwaysScrub := by
  intro n s t h ht
  have hinv : DriverInv t := run_induction stepKeepsDriverInv n h ht
  have hclean := hinv.2.1
  obtain ⟨hcode, hbit⟩ := doneResults_facts t.result (result_mem_of_driverInv hinv)
  exact ⟨hclean, hcode, hbit⟩

end Sys2Proof.Certificates
end

section
/-! SUPPORT. Runs under well-behaved ports and a sound engine (R63, R66, R133): what each action of the driver then
comes to, whatever the ports' waits. -/

namespace Sys2Proof.Machine

open Sys2Proof.Safety

/-! ### Runs -/

/-- Some number of steps leads from one state to the other. -/
def Reaches : State → State → Prop := Relation.ReflTransGen fun s t => step s = .next t

theorem Reaches.exists_run {s t : State} (h : Reaches s t) : ∃ m, Sys2Proof.core.run m s = .next t := by
  induction h using Relation.ReflTransGen.head_induction_on with
  | refl => exact ⟨0, rfl⟩
  | head hstep _ ih =>
    obtain ⟨m, hm⟩ := ih
    exact ⟨m + 1, (run_succ_of_step hstep m).trans hm⟩

/-! ### The ports -/

/-- What of a state the ports decide and no call's outcome depends on: the answers still to come, the last statuses, the
history. -/
structure Ports where
  rdSt : RdStatus
  wrSt : WrStatus
  reads : List ReadAnswer
  writes : List WriteAnswer
  history : List PortEvent
  engine : List EngineAnswer

/-- The answers of a well-behaved source, a well-behaved sink and a sound engine. -/
structure Ports.Sound (x : Ports) : Prop where
  reads : ∀ a ∈ x.reads, a = .wait ∨ a = .sound ∨ a = .answer 0 .eof
  writes : ∀ a ∈ x.writes, a = .wait ∨ a = .answer 0 .ok
  engine : ∀ a ∈ x.engine, a = .sound

def State.ports (s : State) : Ports :=
  ⟨s.rdSt, s.wrSt, s.env.reads, s.env.writes, s.env.history, s.env.engine⟩

/-- A state with other ports, the actions `p` left of its driver step, and a silent host. -/
def State.withPorts (s : State) (p : List Action) (x : Ports) : State :=
  { s with
    pending := p
    rdSt := x.rdSt
    wrSt := x.wrSt
    env := { s.env with
      host := [], reads := x.reads, writes := x.writes, history := x.history, engine := x.engine } }

theorem State.withPorts_ports {s : State} {p : List Action} (hp : s.pending = p) (hh : s.env.host = []) :
    s.withPorts p s.ports = s := by
  obtain ⟨⟩ := s
  subst hp
  simp only [State.withPorts, State.ports, ← hh]

theorem sound_ports {s : State} (h : WellBehaved s) : s.ports.Sound := by
  obtain ⟨⟨-, hreads⟩, hwrites, hengine⟩ := h
  exact ⟨hreads, hwrites, hengine⟩

/-! ### What actions lead to -/

/-- Whatever well-behaved ports `s` has, with `p` left to do it comes to be `t` with `q` left to do. -/
def Leads (p : List Action) (s : State) (q : List Action) (t : State) : Prop :=
  ∀ x : Ports, x.Sound → ∃ y : Ports, y.Sound ∧ Reaches (s.withPorts p x) (t.withPorts q y)

/-- The action makes `t` of `s`, whatever is left after it. -/
def Performs (a : Action) (s t : State) : Prop := ∀ rest, Leads (a :: rest) s rest t

/-- Doing all the actions makes `t` of `s`. -/
def Runs (p : List Action) (s t : State) : Prop := Leads p s [] t

section Leads

variable {s t u : State} {a : Action} {i : Instr} {p q r rest : List Action}

theorem Leads.refl (p : List Action) (s : State) : Leads p s p s := fun x hx => ⟨x, hx, Relation.ReflTransGen.refl⟩

theorem Leads.trans (h : Leads p s q t) (h' : Leads q t r u) : Leads p s r u := by
  intro x hx
  obtain ⟨y, hy, hst⟩ := h x hx
  obtain ⟨z, hz, htu⟩ := h' y hy
  exact ⟨z, hz, Relation.ReflTransGen.trans hst htu⟩

theorem Runs.nil (s : State) : Runs [] s s := Leads.refl [] s

theorem Runs.cons (h : Performs a s t) (h' : Runs p t u) : Runs (a :: p) s u := (h p).trans h'

theorem Runs.trans (h : Runs p s t) (h' : Runs [] t u) : Runs p s u := Leads.trans h h'

/-- An action taken off is one step. -/
theorem leads_of_runAction {x y : Ports} (h : runAction a (s.withPorts rest x) = .next (t.withPorts rest y))
    (hy : y.Sound) :
    ∃ y : Ports, y.Sound ∧ Reaches (s.withPorts (a :: rest) x) (t.withPorts rest y) :=
  ⟨y, hy, .single ((step_of_pending_cons rfl rfl).trans h)⟩

/-- An action that asks no port. -/
theorem performs_of_runAction (h : ∀ rest x, runAction a (s.withPorts rest x) = .next (t.withPorts rest x)) :
    Performs a s t := fun rest x hx => leads_of_runAction (h rest x) hx

/-- A micro-operation that asks no port. -/
theorem performs_of_exec (hwf : WellFormed i) (hi : issuer i = .driver)
    (h : ∀ rest x, exec i (s.withPorts rest x) = .next (t.withPorts rest x)) : Performs (.issue i) s t :=
  performs_of_runAction fun rest x => (runAction_issue hwf hi _).trans (h rest x)

/-- While busy the driver takes up the step at `STEP` by itself (R31). -/
theorem runs_driverStep (hf : s.fsm = .streaming) (h : Runs (driverStep s) s t) : Runs [] s t := by
  intro x hx
  obtain ⟨y, hy, hst⟩ := h x hx
  exact ⟨y, hy, .head (step_takes_up_driverStep (s := s.withPorts [] x) hf rfl rfl) hst⟩

theorem Runs.step (hf : s.fsm = .streaming) (h : Runs (driverStep s) s t) (h' : Runs [] t u) : Runs [] s u :=
  (runs_driverStep hf h).trans h'

theorem performs_goto (l : Label) (s : State) : Performs (.goto l) s (s.goto l) := performs_of_runAction fun _ _ => rfl

theorem performs_countOut (s : State) : Performs .countOut s s.countOut := performs_of_runAction fun _ _ => rfl

theorem performs_markLast (s : State) : Performs .markLast s s.markLast := performs_of_runAction fun _ _ => rfl

/-- A jump ends the step. -/
theorem runs_goto (l : Label) (s : State) : Runs [.goto l] s (s.goto l) := .cons (performs_goto l s) (.nil _)

theorem runs_complete (c : BitVec 8) (s : State) : Runs [.complete c] s (finishCall c s) :=
  fun x hx => leads_of_runAction (y := x) rfl hx

theorem runs_raise (c : Code) (s : State) : Runs [.raise c] s (abort c s) :=
  fun x hx => leads_of_runAction (y := x) rfl hx

end Leads

/-! ### The micro-operations that ask no port -/

section Plain

variable {dst src srca srcb : BufId} {n : Nat} {s : State}

theorem performs_bEmpty (dst : BufId) (s : State) : Performs (.issue (.bEmpty dst)) s (s.setBuf dst []) :=
  performs_of_exec trivial rfl fun rest x => exec_bEmpty dst (s.withPorts rest x)

theorem performs_bFromArray (hc : cap s.params dst = Config.tagLen) :
    Performs (.issue (.bFromArray dst)) s (s.setBuf dst (blockBytes s.etag)) :=
  performs_of_exec trivial rfl fun rest x => (exec_bFromArray dst (s.withPorts rest x)).trans (if_pos hc)

theorem performs_bCopy (hc : (s.buf src).length ≤ cap s.params dst) :
    Performs (.issue (.bCopy dst src)) s (s.setBuf dst (s.buf src)) :=
  performs_of_exec trivial rfl fun rest x => (exec_bCopy dst src (s.withPorts rest x)).trans (assign_eq hc)

theorem performs_bConcat (hc : (s.buf srca ++ s.buf srcb).length ≤ cap s.params dst) :
    Performs (.issue (.bConcat dst srca srcb)) s (s.setBuf dst (s.buf srca ++ s.buf srcb)) :=
  performs_of_exec trivial rfl fun rest x => (exec_bConcat dst srca srcb (s.withPorts rest x)).trans (assign_eq hc)

theorem performs_bHead (hw : Fits16 n) (hn : n ≤ (s.buf src).length) (hc : n ≤ cap s.params dst) :
    Performs (.issue (.bHead dst src n)) s (s.setBuf dst ((s.buf src).take n)) :=
  performs_of_exec hw rfl fun rest x =>
    exec_next_of_guarded_assign (exec_bHead dst src n (s.withPorts rest x)) List.length_take_of_le hn hc

theorem performs_bTail (hw : Fits16 n) (hn : n ≤ (s.buf src).length) (hc : n ≤ cap s.params dst) :
    Performs (.issue (.bTail dst src n)) s (s.setBuf dst ((s.buf src).drop ((s.buf src).length - n))) :=
  performs_of_exec hw rfl fun rest x =>
    exec_next_of_guarded_assign (exec_bTail dst src n (s.withPorts rest x)) length_drop_sub hn hc

theorem performs_eSetTag (hc : setTagContract src s) : Performs (.issue (.eSetTag src)) s (tagSet src s) :=
  performs_of_exec trivial rfl fun rest x => exec_eSetTag_of_contract (s := s.withPorts rest x) hc

theorem performs_eRelease (s : State) : Performs (.issue .eRelease) s s.scrub :=
  performs_of_exec trivial rfl fun rest x => exec_eRelease (s.withPorts rest x)

/-- A record on `DIAG` is history only. -/
theorem performs_sDiag {kind : DiagKind} (hc : kind = .tagval → (s.buf .tag).length = Config.tagLen) :
    Performs (.issue (.sDiag kind)) s s := fun rest x hx =>
  leads_of_runAction (y := { x with history := x.history ++ [.diag (diagRecord kind (s.withPorts rest x))] })
    ((runAction_issue (i := .sDiag kind) trivial rfl _).trans (exec_sDiag_of_record (s := s.withPorts rest x) hc))
    ⟨hx.reads, hx.writes, hx.engine⟩

end Plain

/-! ### The engine -/

section Engine

variable {dst src : BufId} {s t : State} {i : Instr} {x : Ports}

/-- A sound engine says so, and is as sound as before. -/
theorem askEngine_withPorts (hx : x.Sound) (s : State) (p : List Action) :
    ∃ y : Ports, y.Sound ∧ askEngine (s.withPorts p x) = (.sound, s.withPorts p y) := by
  cases hq : x.engine with
  | nil => exact ⟨x, hx, askEngine_quiet (s := s.withPorts p x) hq⟩
  | cons a q =>
    have ha : a = .sound := hx.engine a (hq ▸ List.mem_cons_self)
    have hrest : ∀ b ∈ q, b = .sound := fun b hb => hx.engine b (hq ▸ List.mem_cons_of_mem a hb)
    exact ⟨{ x with engine := q }, ⟨hx.reads, hx.writes, hrest⟩, ha ▸ askEngine_cons (s := s.withPorts p x) hq⟩

/-- A micro-operation that does `f` once the engine has said that it is sound. -/
theorem performs_of_askEngine (hwf : WellFormed i) (hi : issuer i = .driver) (f : State → State)
    (hexec : ∀ rest x u, askEngine (s.withPorts rest x) = (.sound, u) → exec i (s.withPorts rest x) = .next (f u))
    (hf : ∀ rest y, f (s.withPorts rest y) = (f s).withPorts rest y) : Performs (.issue i) s (f s) := by
  intro rest x hx
  obtain ⟨y, hy, ha⟩ := askEngine_withPorts hx s rest
  refine leads_of_runAction ?_ hy
  rw [runAction_issue hwf hi, hexec rest x _ ha, hf]

theorem performs_eInit {d : Dir} {k : KSel} {z : KeySize} {n : Nat} (hn : Fits16 n) (hv : s.ctx.valid = false)
    (hk : kselSize k = some z) (hz : z ∈ s.params.keySizes) (h1 : 1 ≤ n) (hmax : n ≤ s.params.ivMax) :
    Performs (.issue (.eInit d k n)) s (bindEngine d (keyLen z) n s) :=
  performs_of_askEngine (i := .eInit d k n) hn rfl (bindEngine d (keyLen z) n)
    (fun rest x _ ha => exec_eInit_of_answered (s := s.withPorts rest x) hv (supportedKey_eq_some hk hz)
      (supportedIv_eq_true_iff.mpr ⟨h1, hmax⟩) ha nofun) fun _ _ => rfl

/-- The state after `E.UPDATE`: the output in `dst`, the context moved on (R124, R125). -/
def State.transformed (s : State) (dst src : BufId) : State :=
  (s.setCtx (update s.ctx (s.buf src)).2).setBuf dst (update s.ctx (s.buf src)).1

theorem performs_eUpdate (hc : updateContract dst src s) (hn : s.ctx.n + (s.buf src).length ≤ Config.msgMax) :
    Performs (.issue (.eUpdate dst src)) s (s.transformed dst src) :=
  performs_of_askEngine (i := .eUpdate dst src) trivial rfl (fun s => s.transformed dst src)
    (fun rest x _ ha => (exec_eUpdate_of_answered (s := s.withPorts rest x) hc hn ha nofun).trans
      (if_neg (not_not.mpr (update_length ..)))) fun _ _ => rfl

theorem performs_eFinalizeEnc (hc : finalizeEncContract s) : Performs (.issue .eFinalizeEnc) s (finalizedEnc s) :=
  performs_of_askEngine (i := .eFinalizeEnc) trivial rfl finalizedEnc
    (fun rest x _ ha => (exec_eFinalizeEnc_of_answered (s := s.withPorts rest x) hc ha nofun).trans
      (if_neg (not_not.mpr rfl))) fun _ _ => rfl

theorem performs_eFinalizeDec (hc : finalizeDecContract s) : Performs (.issue .eFinalizeDec) s (finalizedDec s) :=
  performs_of_askEngine (i := .eFinalizeDec) trivial rfl finalizedDec
    (fun rest x _ ha => exec_eFinalizeDec_of_answered (s := s.withPorts rest x) hc ha nofun) fun _ _ => rfl

end Engine

/-! ### The streams -/

section Streams

variable {dst src : BufId} {n : Nat} {s : State}

/-- The state after `S.READ` of a well-behaved source: the next bytes stored and counted (R160). -/
def State.fetched (s : State) (dst : BufId) (n : Nat) : State :=
  ((s.setEnv { s.env with pos := s.env.pos + (s.nextInput n).length }).setBuf dst (s.nextInput n)).countIn
    (s.nextInput n).length

theorem eof_ne_err : RdStatus.eof ≠ .err := nofun

theorem soundStatus_ne_err {c : Prop} [Decidable c] : (if c then RdStatus.eof else .ok) ≠ .err := by split <;> nofun

/-- An answer that is no failure, once the ports are as it leaves them. -/
theorem exec_sRead_withPorts {rest : List Action} {x : Ports} {st : RdStatus} {q : List ReadAnswer}
    (hc : readContract dst n s) (hst : st ≠ .err) (hshort : (s.nextInput n).length < n → st = .eof)
    (hm : memRead n (s.withPorts rest x) =
      .answered (s.nextInput n, st) ((s.withPorts rest x).received n (s.nextInput n) st q)) :
    exec (.sRead dst n) (s.withPorts rest x) = .next ((s.fetched dst n).withPorts rest
      { x with rdSt := st, reads := q, history := x.history ++ [.read n (s.nextInput n) st] }) :=
  (exec_sRead_of_answered (s := s.withPorts rest x) hc hm).trans (finishRead_of_ok hst hshort)

/-- A source that waits at times reads on in the end; a full read that says `EOF` is read like any other (R161). -/
theorem performs_sRead (hn : Fits16 n) (hc : readContract dst n s) :
    Performs (.issue (.sRead dst n)) s (s.fetched dst n) := by
  intro rest x hx
  have hword (u : State) := runAction_issue (i := .sRead dst n) hn rfl u
  obtain ⟨q, hq⟩ : ∃ q, x.reads = q := ⟨_, rfl⟩
  induction q generalizing x with
  | nil =>
    have hm := memRead_quiet (n := n) (s := s.withPorts rest x) hq
    exact leads_of_runAction ((hword _).trans (exec_sRead_withPorts hc soundStatus_ne_err (fun h => if_pos h) hm))
      ⟨nofun, hx.writes, hx.engine⟩
  | cons a q ih =>
    have hrest : ∀ b ∈ q, b = .wait ∨ b = .sound ∨ b = .answer 0 .eof :=
      fun b hb => hx.reads b (hq ▸ List.mem_cons_of_mem a hb)
    rcases hx.reads a (hq ▸ List.mem_cons_self) with rfl | rfl | rfl
    · have hwait := (hword _).trans
        (exec_sRead_of_waiting (s := s.withPorts rest x) hc (memRead_wait hq))
      obtain ⟨y, hy, hreach⟩ := ih { x with reads := q } ⟨hrest, hx.writes, hx.engine⟩ rfl
      exact ⟨y, hy, .head ((step_of_pending_cons rfl rfl).trans hwait) hreach⟩
    · have hm := memRead_sound (n := n) (s := s.withPorts rest x) hq
      exact leads_of_runAction ((hword _).trans (exec_sRead_withPorts hc soundStatus_ne_err (fun h => if_pos h) hm))
        ⟨hrest, hx.writes, hx.engine⟩
    · have hm := memRead_answer (n := n) (s := s.withPorts rest x) hq
      exact leads_of_runAction ((hword _).trans (exec_sRead_withPorts hc eof_ne_err (fun _ => rfl) hm))
        ⟨hrest, hx.writes, hx.engine⟩

/-- The state after `S.WRITE` to a well-behaved sink: the bytes are in it (R163). -/
def State.delivered (s : State) (src : BufId) : State := s.setEnv { s.env with sink := s.env.sink ++ s.buf src }

theorem exec_sWrite_withPorts {rest : List Action} {x : Ports} {q : List WriteAnswer} (hne : s.buf src ≠ [])
    (hm : memWrite (s.buf src) (s.withPorts rest x) =
      .answered ((s.buf src).length, .ok) ((s.withPorts rest x).sent (s.buf src) (s.buf src).length .ok q)) :
    exec (.sWrite src) (s.withPorts rest x) = .next ((s.delivered src).withPorts rest
      { x with wrSt := .ok, writes := q, history := x.history ++ [.write (s.buf src) (s.buf src).length .ok] }) := by
  have hexec := (exec_sWrite_of_answered (s := s.withPorts rest x) hne hm).trans (finishWrite_of_ok le_rfl)
  rw [hexec]
  simp only [State.sent, List.take_length]
  rfl

theorem performs_sWrite (src : BufId) (s : State) : Performs (.issue (.sWrite src)) s (s.delivered src) := by
  intro rest x hx
  have hword (u : State) := runAction_issue (i := .sWrite src) trivial rfl u
  by_cases hne : s.buf src = []
  · have hsame : s.delivered src = s := by simp only [State.delivered, hne, List.append_nil, State.setEnv]
    rw [hsame]
    exact leads_of_runAction ((hword _).trans (exec_sWrite_of_empty (s := s.withPorts rest x) hne)) hx
  obtain ⟨q, hq⟩ : ∃ q, x.writes = q := ⟨_, rfl⟩
  induction q generalizing x with
  | nil =>
    have hm := memWrite_quiet (bytes := s.buf src) (s := s.withPorts rest x) hq
    exact leads_of_runAction ((hword _).trans (exec_sWrite_withPorts hne hm)) ⟨hx.reads, nofun, hx.engine⟩
  | cons a q ih =>
    have hrest : ∀ b ∈ q, b = .wait ∨ b = .answer 0 .ok := fun b hb => hx.writes b (hq ▸ List.mem_cons_of_mem a hb)
    rcases hx.writes a (hq ▸ List.mem_cons_self) with rfl | rfl
    · have hwait := (hword _).trans
        (exec_sWrite_of_waiting (s := s.withPorts rest x) hne (memWrite_wait hq))
      obtain ⟨y, hy, hreach⟩ := ih { x with writes := q } ⟨hx.reads, hrest, hx.engine⟩ rfl
      exact ⟨y, hy, .head ((step_of_pending_cons rfl rfl).trans hwait) hreach⟩
    · have hm := memWrite_answer (bytes := s.buf src) (s := s.withPorts rest x) hq
      exact leads_of_runAction ((hword _).trans (exec_sWrite_withPorts hne hm)) ⟨hx.reads, hrest, hx.engine⟩

end Streams

end Sys2Proof.Machine
end

section
/-! SUPPORT. What a whole call carries from step to step (R180, R212): the bytes read, the bytes fed to the engine, and
what has been written and counted; and how a call begins. -/

namespace Sys2Proof.Machine

open Sys2Proof.Safety

/-- A call in direction `d` whose engine has just been bound, on a finite stream. -/
structure Launched (d : Dir) (s : State) : Prop where
  bound : Bound s d
  fresh : s.ctx.n = 0
  finite : s.env.sIn.endless = none
  params : s.params.Ok

/-- Of the stream, `g` has been read and `r` not; `f` has been through the engine that `s₀` holds, whose output is in
the sink; bytes read and bytes produced are counted; what a call does not touch is as in `s₀`. -/
def Midway (s₀ : State) (f g r : List Byte) (s : State) : Prop :=
  (s.params = s₀.params ∧ s.key = s₀.key ∧ s.ivmem = s₀.ivmem ∧ s.cmdl = s₀.cmdl ∧ s.env.sIn = s₀.env.sIn ∧
    s.fsm = .streaming) ∧
  (s₀.env.sIn.bytes = g ++ r ∧ s.env.pos = g.length ∧ s.cntIn = g.length % 2 ^ s₀.params.cntBits) ∧
  s.ctx = (update s₀.ctx f).2 ∧ s.env.sink = s₀.env.sink ++ (update s₀.ctx f).1 ∧
  s.cntOut = f.length % 2 ^ s₀.params.cntBits

/-- The state once a register has been transformed into `OUT`, counted, and written out (R174, R175). -/
def State.fed (s : State) (src : BufId) : State := (s.transformed .out src).countOut.delivered .out

section Midway

variable {s₀ s t : State} {f g r : List Byte} {d : Dir} {l : Label} {dst src : BufId} {n : Nat}

theorem Midway.busy (h : Midway s₀ f g r s) : s.fsm = .streaming := by
  obtain ⟨⟨-, -, -, -, -, hbusy⟩, -⟩ := h
  exact hbusy

theorem Midway.params_eq (h : Midway s₀ f g r s) : s.params = s₀.params := by
  obtain ⟨⟨hparams, -⟩, -⟩ := h
  exact hparams

theorem Midway.ctx_eq (h : Midway s₀ f g r s) : s.ctx = (update s₀.ctx f).2 := by
  obtain ⟨-, -, hctx, -⟩ := h
  exact hctx

theorem Midway.stream_eq (h : Midway s₀ f g r s) : s₀.env.sIn.bytes = g ++ r := by
  obtain ⟨-, ⟨hbytes, -⟩, -⟩ := h
  exact hbytes

theorem Midway.bound (h : Midway s₀ f g r s) (hs : Launched d s₀) : Bound s d := by
  obtain ⟨y, part, hu⟩ := update_ctx s₀.ctx f
  simp only [Bound, h.ctx_eq, hu]
  exact hs.bound

theorem Midway.ctx_n (h : Midway s₀ f g r s) (hs : Launched d s₀) : s.ctx.n = f.length := by
  rw [h.ctx_eq, update_n, hs.fresh, Nat.zero_add]

theorem Midway.nextInput (h : Midway s₀ f g r s) (hs : Launched d s₀) (n : Nat) : s.nextInput n = r.take n := by
  obtain ⟨⟨-, -, -, -, hsIn, -⟩, ⟨hbytes, hpos, -⟩, -⟩ := h
  rw [State.nextInput, hsIn, hpos, slice_of_finite hs.finite, hbytes, List.drop_left]

theorem countUp_mod (p : Params) (a b : Nat) : countUp p (a % 2 ^ p.cntBits) b = (a + b) % 2 ^ p.cntBits :=
  Nat.mod_add_mod ..

theorem Midway.fetched (h : Midway s₀ f g r s) (hs : Launched d s₀) (dst : BufId) (n : Nat) :
    Midway s₀ f (g ++ r.take n) (r.drop n) (s.fetched dst n) := by
  have hnext := h.nextInput hs n
  obtain ⟨hsame, ⟨hbytes, hpos, hcnt⟩, hrest⟩ := h
  refine ⟨hsame, ⟨?_, ?_, ?_⟩, hrest⟩
  · rw [hbytes, List.append_assoc, List.take_append_drop]
  · rw [List.length_append, ← hpos, ← hnext]
    rfl
  · have hc : (s.fetched dst n).cntIn = countUp s.params s.cntIn (s.nextInput n).length := rfl
    rw [hc, hsame.1, hcnt, hnext, countUp_mod, List.length_append]

theorem fetched_buf (h : Midway s₀ f g r s) (hs : Launched d s₀) (dst : BufId) (n : Nat) :
    (s.fetched dst n).buf dst = r.take n := (State.setBuf_buf_self ..).trans (h.nextInput hs n)

theorem Midway.fed (h : Midway s₀ f g r s) (src : BufId) : Midway s₀ (f ++ s.buf src) g r (s.fed src) := by
  obtain ⟨hsame, hread, hctx, hsink, hcnt⟩ := h
  refine ⟨hsame, hread, ?_, ?_, ?_⟩
  · have hc : (s.fed src).ctx = (update s.ctx (s.buf src)).2 := rfl
    rw [hc, hctx, update_append]
  · have hc : (s.fed src).env.sink = s.env.sink ++ (update s.ctx (s.buf src)).1 := rfl
    rw [hc, hsink, hctx, update_append, List.append_assoc]
  · have hc : (s.fed src).cntOut = countUp s.params s.cntOut (update s.ctx (s.buf src)).1.length := rfl
    rw [hc, hsame.1, hcnt, countUp_mod, update_length, List.length_append]

/-! ### Steps of a call -/

/-- The driver takes up the step of a known label. -/
theorem Midway.runs_label (h : Midway s₀ f g r s) (hl : s.label = l)
    (hrun : Runs (driverStep { s with label := l }) s t) : Runs [] s t :=
  runs_driverStep h.busy (driverStep_eq hl ▸ hrun)

theorem Midway.performs_sRead (h : Midway s₀ f g r s) (h1 : 1 ≤ n)
    (hc : n ≤ cap s₀.params dst) (hn : Fits16 n) : Performs (.issue (.sRead dst n)) s (s.fetched dst n) :=
  Machine.performs_sRead hn ⟨h1, h.params_eq ▸ hc⟩

theorem Midway.performs_eUpdate (h : Midway s₀ f g r s) (hs : Launched d s₀) (hne : .out ≠ src)
    (hc : (s.buf src).length ≤ s₀.params.chunk) (hmax : f.length + (s.buf src).length ≤ Config.msgMax) :
    Performs (.issue (.eUpdate .out src)) s (s.transformed .out src) :=
  Machine.performs_eUpdate (updateContract_of_bound (h.bound hs) (h.params_eq ▸ hc) hne) (h.ctx_n hs ▸ hmax)

/-- A register transformed into `OUT`, counted and written within one step (R193, R196, R208). -/
theorem Midway.runs_fed (h : Midway s₀ f g r s) (hs : Launched d s₀) (hne : .out ≠ src)
    (hc : (s.buf src).length ≤ s₀.params.chunk) (hmax : f.length + (s.buf src).length ≤ Config.msgMax)
    {p : List Action} (hrun : Runs p (s.fed src) t) :
    Runs (.issue (.eUpdate .out src) :: .countOut :: .issue (.sWrite .out) :: p) s t :=
  .cons (h.performs_eUpdate hs hne hc hmax) (.cons (performs_countOut _) (.cons (performs_sWrite .out _) hrun))

end Midway

section Limits

variable {d : Dir} {s : State}

theorem Launched.fits16_chunk (h : Launched d s) : Fits16 s.params.chunk := by
  obtain ⟨-, hb, -⟩ := h.params
  simp only [Fits16]
  omega

theorem Launched.one_le_chunk (h : Launched d s) : 1 ≤ s.params.chunk := by
  obtain ⟨hb, -⟩ := h.params
  omega

end Limits

/-! ### The start -/

section Start

variable {s t : State} {d : Dir} {k : KSel} {z : KeySize} {n : Nat}

/-- The label a call goes to from `ST1` (R171). -/
def firstLabel : Dir → Label
  | .enc => .en1
  | .dec => .de1

theorem stepSt1_eq (s : State) : stepSt1 s =
    [.issue (.eInit s.cmdlDir s.cmdlKsel s.cmdlIvlen), .issue (.sDiag .ivsize), .goto (firstLabel s.cmdlDir)] := by
  rw [stepSt1]
  cases s.cmdlDir <;> rfl

/-- `ST0` done: the command is latched, the call begun (R170). -/
def State.accepted (s : State) (d : Dir) (k : KSel) (n : Nat) : State :=
  { beginCall (s.setHost []) with cmdl := encode (callCommand d k n), label := .st1 }

/-- `ST1` done: the engine is bound to the operand registers (R171). -/
def State.launched (s : State) (d : Dir) (k : KSel) (z : KeySize) (n : Nat) : State :=
  bindEngine d (keyLen z) n (s.accepted d k n)

/-- What the statements on a whole call suppose of the state and the command. -/
structure Launchable (d : Dir) (k : KSel) (z : KeySize) (n : Nat) (s : State) : Prop where
  inv : DriverInv s
  rest : s.fsm ≠ .streaming
  wellBehaved : WellBehaved s
  command : s.env.host = [.writeCmd (encode (callCommand d k n))]
  start : s.env.pos = 0
  key : kselSize k = some z
  size : z ∈ s.params.keySizes
  one_le : 1 ≤ n
  le_max : n ≤ s.params.ivMax

theorem Launchable.fits16 (h : Launchable d k z n s) : Fits16 n := by
  obtain ⟨⟨⟨-, -, -, hmax, -⟩, -⟩, -⟩ := h.inv
  have hn := h.le_max
  simp only [Fits16]
  omega

theorem Launchable.pending (h : Launchable d k z n s) : s.pending = [] := by
  obtain ⟨⟨-, -, -, -, -, hrest⟩, -⟩ := h.inv
  exact (hrest h.rest).1

theorem Launchable.step_eq (h : Launchable d k z n s) : step s = .next (s.accepted d k n) := by
  rw [step_of_hostEvent h.pending h.command nofun]
  exact (commandWord_encode (callCommand_wellFormed d k h.fits16) (callCommand_issuer d k n)).trans
    ((exec_of_host (callCommand_issuer d k n) _).trans (acceptCommand_of_not_busy h.rest))

theorem Launchable.launched (h : Launchable d k z n s) : Launched d (s.launched d k z n) := by
  obtain ⟨⟨hparams, -⟩, -⟩ := h.inv
  obtain ⟨⟨hfin, -⟩, -⟩ := h.wellBehaved
  exact ⟨⟨rfl, rfl, rfl, rfl⟩, rfl, hfin, hparams⟩

theorem Launchable.ctx_valid (h : Launchable d k z n s) : s.ctx.valid = false := by
  obtain ⟨-, hclean, -⟩ := h.inv
  obtain ⟨-, hctx, -⟩ := hclean h.rest
  rw [hctx]
  rfl

theorem Launchable.runs_st1 (h : Launchable d k z n s) :
    Runs [] (s.accepted d k n) ((s.launched d k z n).goto (firstLabel d)) := by
  obtain ⟨hdir, hksel, hcount⟩ := operands_callCommand d k h.fits16
  have hd : (s.accepted d k n).cmdlDir = d := hdir
  have hk : (s.accepted d k n).cmdlKsel = k := hksel
  have hn : (s.accepted d k n).cmdlIvlen = n := hcount
  have hstep : driverStep (s.accepted d k n) = [.issue (.eInit d k n), .issue (.sDiag .ivsize),
      .goto (firstLabel d)] := by
    have hst1 := stepSt1_eq (s.accepted d k n)
    rwa [hd, hk, hn] at hst1
  refine runs_driverStep rfl ?_
  rw [hstep]
  exact .cons (performs_eInit h.fits16 h.ctx_valid h.key h.size h.one_le h.le_max)
    (.cons (performs_sDiag nofun) (runs_goto _ _))

/-- Nothing read, nothing fed. -/
theorem Launchable.midway (h : Launchable d k z n s) (l : Label) :
    Midway (s.launched d k z n) [] [] s.env.sIn.bytes ((s.launched d k z n).goto l) :=
  ⟨⟨rfl, rfl, rfl, rfl, rfl, rfl⟩, ⟨rfl, h.start, (Nat.zero_mod _).symm⟩, rfl, (List.append_nil _).symm,
    (Nat.zero_mod _).symm⟩

/-- What the driver does from its first label on is what the whole call does. -/
theorem Launchable.exists_run (h : Launchable d k z n s)
    (hrun : Runs [] ((s.launched d k z n).goto (firstLabel d)) t) :
    ∃ m y, Sys2Proof.core.run m s = .next (t.withPorts [] y) := by
  have hsound : (s.accepted d k n).ports.Sound := sound_ports (s := s.accepted d k n) h.wellBehaved
  obtain ⟨y, -, hreach⟩ := (h.runs_st1.trans hrun) _ hsound
  rw [State.withPorts_ports (s := s.accepted d k n) h.pending rfl] at hreach
  obtain ⟨m, hm⟩ := hreach.exists_run
  exact ⟨m + 1, y, (run_succ_of_step h.step_eq m).trans hm⟩

end Start

end Sys2Proof.Machine
end

section
/-! SUPPORT. A whole encryption call under well-behaved ports (R173 to R180). -/

namespace Sys2Proof.Machine

open Sys2Proof.Safety

section Encryption

variable {s₀ s : State} {g r : List Byte}

/-- One turn of the loop: a chunk read, transformed, counted and written (R173 to R175). -/
def State.encTurn (s : State) : State := (s.fetched .in_ s.params.chunk).markLast.fed .in_

theorem Midway.encTurn (h : Midway s₀ g g r s) (hs : Launched .enc s₀) :
    Midway s₀ (g ++ r.take s.params.chunk) (g ++ r.take s.params.chunk) (r.drop s.params.chunk) s.encTurn := by
  have hread : Midway s₀ g (g ++ r.take s.params.chunk) (r.drop s.params.chunk)
      (s.fetched .in_ s.params.chunk).markLast := h.fetched hs .in_ s.params.chunk
  have hfed := hread.fed .in_
  rwa [State.markLast_buf, fetched_buf h hs] at hfed

theorem Midway.encTurn_last (h : Midway s₀ g g r s) (hs : Launched .enc s₀) :
    s.encTurn.last = decide ((r.take s.params.chunk).length < s.params.chunk) := by
  rw [← fetched_buf h hs .in_ s.params.chunk]
  rfl

theorem Midway.runs_encTurn (h : Midway s₀ g g r s) (hs : Launched .enc s₀) (hl : s.label = .en1)
    (hmax : (g ++ r).length ≤ Config.msgMax) :
    Runs [] s (s.encTurn.goto (if s.encTurn.last then .en5 else .en1)) := by
  have hp := congrArg Params.chunk h.params_eq
  have hread : Midway s₀ g (g ++ r.take s.params.chunk) (r.drop s.params.chunk)
      ((s.fetched .in_ s.params.chunk).markLast.goto .en2) := h.fetched hs .in_ s.params.chunk
  have hin : ((s.fetched .in_ s.params.chunk).markLast.goto .en2).buf .in_ = r.take s.params.chunk :=
    fetched_buf h hs .in_ s.params.chunk
  have hcap : (r.take s.params.chunk).length ≤ s₀.params.chunk := by
    rw [← hp]
    exact List.length_take_le ..
  have hfits : g.length + (r.take s.params.chunk).length ≤ Config.msgMax := by
    simp only [List.length_append, List.length_take] at hmax ⊢
    omega
  have hupdate := hread.performs_eUpdate hs (src := .in_) (by decide) (hin ▸ hcap) (hin ▸ hfits)
  have hen1 := h.runs_label hl (.cons (h.performs_sRead (dst := .in_) (hp ▸ hs.one_le_chunk) hp.le
    (hp ▸ hs.fits16_chunk)) (.cons (performs_markLast _) (runs_goto .en2 _)))
  have hen2 := hread.runs_label rfl (.cons hupdate (.cons (performs_countOut _) (runs_goto .en3 _)))
  exact hen1.trans (hen2.trans (.step hread.busy (.cons (performs_sWrite .out _) (runs_goto .en4 _))
    (runs_driverStep hread.busy (runs_goto _ _))))

/-- The loop reads and transforms the whole stream, and ends after the first chunk that is not full (R176). -/
theorem Midway.runs_encLoop {s : State} {g r : List Byte} (hs : Launched .enc s₀) (h : Midway s₀ g g r s)
    (hl : s.label = .en1) (hmax : (g ++ r).length ≤ Config.msgMax) :
    ∃ t, Runs [] s t ∧ t.label = .en5 ∧ Midway s₀ (g ++ r) (g ++ r) [] t := by
  have hturn := h.runs_encTurn hs hl hmax
  have hmid := h.encTurn hs
  have hlast := h.encTurn_last hs
  by_cases hfull : (r.take s.params.chunk).length < s.params.chunk
  · rw [decide_eq_true hfull] at hlast
    rw [hlast, if_pos rfl] at hturn
    have hall : r.length ≤ s.params.chunk := by
      rw [List.length_take] at hfull
      omega
    rw [List.take_of_length_le hall, List.drop_of_length_le hall] at hmid
    exact ⟨_, hturn, rfl, hmid⟩
  · rw [decide_eq_false hfull] at hlast
    rw [hlast, if_neg nofun] at hturn
    have hsplit : g ++ r.take s.params.chunk ++ r.drop s.params.chunk = g ++ r := by
      rw [List.append_assoc, List.take_append_drop]
    have hshorter : (r.drop s.params.chunk).length < r.length := by
      have hone : 1 ≤ s.params.chunk := h.params_eq ▸ hs.one_le_chunk
      rw [List.length_take] at hfull
      rw [List.length_drop]
      omega
    obtain ⟨t, ht, hlt, hmt⟩ := Midway.runs_encLoop (s := s.encTurn.goto .en1) hs hmid rfl (hsplit ▸ hmax)
    exact ⟨t, hturn.trans ht, hlt, hsplit ▸ hmt⟩
termination_by r.length
decreasing_by exact hshorter

/-- The tag made, written and reported, the call done (R177 to R179). -/
def State.encDone (s : State) : State :=
  finishCall 0x00 (((finalizedEnc s).setBuf .tag (blockBytes (finalTag s.ctx))).delivered .tag).scrub

theorem Midway.runs_encEnd (h : Midway s₀ g g r s) (hs : Launched .enc s₀) (hl : s.label = .en5) :
    Runs [] s s.encDone := by
  obtain ⟨hv, hd, -, hf⟩ := h.bound hs
  have hen5 := h.runs_label hl (.cons (performs_eFinalizeEnc ⟨hv, hd, hf⟩) (.cons (performs_bFromArray rfl)
    (runs_goto .en6 _)))
  exact hen5.trans (.step h.busy (.cons (performs_sWrite .tag _) (runs_goto .en7 _)) (runs_driverStep h.busy
    (.cons (performs_sDiag nofun) (.cons (performs_sDiag fun _ => blockBytes_length (finalTag s.ctx))
      (.cons (performs_eRelease _) (runs_complete _ _))))))

end Encryption

end Sys2Proof.Machine
end

section
/-! The obligation on a whole encryption call (R180). -/

namespace Sys2Proof.Certificates

open Sys2Proof.Machine Sys2Proof.Safety

/-- Settles O58: the loop feeds the whole stream to the engine, and the streaming engine is the one-shot one (O56). -/
theorem encryptCallComputesGcm : Obligations.EncryptCallComputesGcm := by
  intro s k z n hinv hrest hwb hcmd hpos hk hz h1 hmax hlen
  have h : Launchable .enc k z n s := ⟨hinv, hrest, hwb, hcmd, hpos, hk, hz, h1, hmax⟩
  obtain ⟨t, hloop, hlabel, hmid⟩ := Midway.runs_encLoop h.launched (h.midway .en1) rfl hlen
  obtain ⟨m, y, hrun⟩ := h.exists_run (hloop.trans (hmid.runs_encEnd h.launched hlabel))
  have hslice : (Memory.slice s.key 0 (keyLen z)).length = keyLen z := Memory.slice_length ..
  obtain ⟨hgcm, -⟩ := streamingIsOneShotGcm (s.accepted .enc k n).ctx (Memory.slice s.key 0 (keyLen z))
    (Memory.slice s.ivmem 0 n) s.env.sIn.bytes (hslice.symm ▸ keyLength_keyLen z)
  obtain ⟨⟨hparams, hkey, hivmem, -⟩, ⟨-, -, hcntIn⟩, hctx, hsink, hcntOut⟩ := hmid
  refine ⟨m, _, hrun, rfl, rfl, hcntIn, hcntOut, ?_, ⟨rfl, rfl, rfl⟩, fun a => ⟨?_, ?_⟩⟩
  · have hend : (t.encDone.withPorts [] y).env.sink = t.env.sink ++ blockBytes (finalTag t.ctx) := rfl
    rw [hend, hsink, hctx, ← hgcm]
    rfl
  · exact congrArg (Memory.read · a) hkey
  · exact congrArg (Memory.read · a) hivmem

end Sys2Proof.Certificates
end

section
/-! SUPPORT. A whole decryption call under well-behaved ports (R191 to R212). -/

namespace Sys2Proof.Machine

open Sys2Proof.Safety

section Decryption

variable {s₀ s t : State} {f g r : List Byte}

/-! ### The loop -/

/-- At `DE1` all that has been read and not fed is the lookbehind, a whole tag's worth or nothing of nothing (R25). -/
structure AtLoop (s₀ : State) (f g r : List Byte) (s : State) : Prop where
  mid : Midway s₀ f g r s
  window : g = f ++ s.buf .lb
  lookbehind : (f = [] ∧ s.buf .lb = []) ∨ (s.buf .lb).length = Config.tagLen
  label : s.label = .de1

/-- At `DF1` the whole stream has been read, and all that has not been fed is in `X` (R198, R199). -/
structure AtEnd (s₀ : State) (f : List Byte) (s : State) : Prop where
  mid : Midway s₀ f (f ++ s.buf .x) [] s
  whole : f = [] ∨ Config.tagLen ≤ (s.buf .x).length
  fits : (s.buf .x).length ≤ s₀.params.chunk + Config.tagLen
  label : s.label = .df1

theorem tagLen_le_chunk_of_launched {d : Dir} (hs : Launched d s₀) : Config.tagLen ≤ s₀.params.chunk := by
  obtain ⟨hb, -⟩ := hs.params
  exact hb

theorem AtLoop.length_lookbehind (h : AtLoop s₀ f g r s) : (s.buf .lb).length ≤ Config.tagLen := by
  rcases h.lookbehind with ⟨-, hlb⟩ | hlb
  · rw [hlb]
    exact Nat.zero_le _
  · exact hlb.le

/-- A chunk is read, and its length decides (R191, R192). -/
theorem Midway.runs_de1 (h : Midway s₀ f g r s) (hs : Launched .dec s₀) (hl : s.label = .de1) :
    Runs [] s ((s.fetched .in_ s.params.chunk).goto
      (if (r.take s.params.chunk).length = s.params.chunk then .de3 else .de9)) := by
  have hp := congrArg Params.chunk h.params_eq
  have hde1 := h.runs_label hl (.cons (h.performs_sRead (dst := .in_) (hp ▸ hs.one_le_chunk) hp.le
    (hp ▸ hs.fits16_chunk)) (runs_goto .de2 _))
  rw [← fetched_buf h hs .in_ s.params.chunk]
  exact hde1.trans (runs_driverStep h.busy (runs_goto _ _))

/-- The state once the lookbehind is flushed and the probe made (R193, R194). -/
def State.probed (s : State) : State := ((s.fed .lb).setBuf .lb []).fetched .la Config.tagLen

theorem Midway.probed (h : Midway s₀ f g r s) (hs : Launched .dec s₀) :
    Midway s₀ (f ++ s.buf .lb) (g ++ r.take Config.tagLen) (r.drop Config.tagLen) s.probed :=
  Midway.fetched (s := (s.fed .lb).setBuf .lb []) (h.fed .lb) hs .la Config.tagLen

theorem probed_buf (h : Midway s₀ f g r s) (hs : Launched .dec s₀) : s.probed.buf .la = r.take Config.tagLen :=
  fetched_buf (s := (s.fed .lb).setBuf .lb []) (h.fed .lb) hs .la Config.tagLen

/-- The length of the probe decides (R193 to R195). -/
theorem Midway.runs_de3 (h : Midway s₀ f g r s) (hs : Launched .dec s₀) (hl : s.label = .de3)
    (hlb : (s.buf .lb).length ≤ Config.tagLen) (hmax : f.length + (s.buf .lb).length ≤ Config.msgMax) :
    Runs [] s (s.probed.goto (if (r.take Config.tagLen).length = Config.tagLen then .de6 else .de8)) := by
  have hde3 := h.runs_label hl (h.runs_fed hs (src := .lb) (by decide) (hlb.trans (tagLen_le_chunk_of_launched hs)) hmax
    (.cons (performs_bEmpty .lb _) (runs_goto .de4 _)))
  have hread := Midway.performs_sRead (s := ((s.fed .lb).setBuf .lb []).goto .de4) (dst := .la) (n := Config.tagLen)
    (h.fed .lb) (by decide) le_rfl (by decide)
  rw [← probed_buf h hs]
  exact hde3.trans (.step h.busy (.cons hread (runs_goto .de5 _)) (runs_driverStep h.busy (runs_goto _ _)))

/-- The state once the chunk is fed and the window moved (R196, R197). -/
def State.rotated (s : State) : State := (s.fed .in_).setBuf .lb (s.buf .la)

theorem Midway.runs_de6 (h : Midway s₀ f g r s) (hs : Launched .dec s₀) (hl : s.label = .de6)
    (hin : (s.buf .in_).length ≤ s₀.params.chunk) (hla : (s.buf .la).length = Config.tagLen)
    (hmax : f.length + (s.buf .in_).length ≤ Config.msgMax) : Runs [] s (s.rotated.goto .de1) := by
  have hde6 := h.runs_label hl (h.runs_fed hs (src := .in_) (by decide) hin hmax (runs_goto .de7 _))
  have hcopy := performs_bCopy (dst := .lb) (src := .la) (s := (s.fed .in_).goto .de7) hla.le
  exact hde6.trans (runs_driverStep h.busy (.cons hcopy (runs_goto .de1 _)))

/-- The stream ends inside the probe: what is left is the chunk and the probe (R198). -/
theorem Midway.runs_de8 (h : Midway s₀ f g r s) (hl : s.label = .de8)
    (hfits : (s.buf .in_ ++ s.buf .la).length ≤ s₀.params.chunk + Config.tagLen) :
    Runs [] s ((s.setBuf .x (s.buf .in_ ++ s.buf .la)).goto .df1) :=
  h.runs_label hl (.cons (performs_bConcat (h.params_eq ▸ hfits)) (runs_goto .df1 _))

/-- The stream ends inside the chunk: what is left is the lookbehind and the chunk (R199). -/
theorem Midway.runs_de9 (h : Midway s₀ f g r s) (hl : s.label = .de9)
    (hfits : (s.buf .lb ++ s.buf .in_).length ≤ s₀.params.chunk + Config.tagLen) :
    Runs [] s ((s.setBuf .x (s.buf .lb ++ s.buf .in_)).goto .df1) :=
  h.runs_label hl (.cons (performs_bConcat (h.params_eq ▸ hfits)) (runs_goto .df1 _))

/-- The bytes that a read leaves are none when it has not filled its count. -/
theorem drop_eq_nil_of_length_take_ne {α : Type} {l : List α} {n : Nat} (h : (l.take n).length ≠ n) :
    l.drop n = [] := by
  rw [List.length_take] at h
  exact List.drop_of_length_le (by omega)

/-- After the probe: a full chunk and the probe have been read and not fed, the lookbehind is flushed. -/
structure AtProbe (s₀ : State) (g r : List Byte) (s : State) : Prop where
  mid : Midway s₀ g (g ++ s.buf .in_ ++ s.buf .la) r s
  full : (s.buf .in_).length = s₀.params.chunk
  probe : (s.buf .la).length ≤ Config.tagLen

/-- From a full chunk the driver goes on to the probe. -/
theorem AtLoop.runs_full (h : AtLoop s₀ f g r s) (hs : Launched .dec s₀)
    (hmax : s₀.env.sIn.bytes.length - Config.tagLen ≤ Config.msgMax)
    (hfull : (r.take s.params.chunk).length = s.params.chunk) :
    ∃ v, Runs [] s (v.goto (if (v.buf .la).length = Config.tagLen then .de6 else .de8)) ∧
      v.buf .la = (r.drop s.params.chunk).take Config.tagLen ∧
      AtProbe s₀ g ((r.drop s.params.chunk).drop Config.tagLen) v := by
  have hp : s.params.chunk = s₀.params.chunk := congrArg Params.chunk h.mid.params_eq
  have hde1 := h.mid.runs_de1 hs h.label
  rw [if_pos hfull] at hde1
  have hu : Midway s₀ f (g ++ r.take s.params.chunk) (r.drop s.params.chunk)
      ((s.fetched .in_ s.params.chunk).goto .de3) := h.mid.fetched hs .in_ s.params.chunk
  have hin : ((s.fetched .in_ s.params.chunk).goto .de3).buf .in_ = r.take s.params.chunk :=
    fetched_buf h.mid hs .in_ _
  have hlb : ((s.fetched .in_ s.params.chunk).goto .de3).buf .lb = s.buf .lb := rfl
  have hul : ((s.fetched .in_ s.params.chunk).goto .de3).label = .de3 := rfl
  generalize (s.fetched .in_ s.params.chunk).goto .de3 = u at hde1 hu hin hlb hul
  have hmost : f.length + (u.buf .lb).length ≤ Config.msgMax := by
    have htotal := congrArg List.length hu.stream_eq
    have hwindow := congrArg List.length h.window
    have hchunk := tagLen_le_chunk_of_launched hs
    simp only [List.length_append, hfull] at htotal hwindow
    rw [hlb]
    omega
  have hde3 := hu.runs_de3 hs hul (hlb ▸ h.length_lookbehind) hmost
  have hmid := hu.probed hs
  have hla := probed_buf hu hs
  have hvin : u.probed.buf .in_ = r.take s.params.chunk := hin
  rw [hlb, ← h.window, ← hla, ← hvin] at hmid
  rw [← hla] at hde3
  exact ⟨u.probed, hde1.trans hde3, hla, hmid, by rw [hvin, hfull, hp], hla ▸ List.length_take_le ..⟩

theorem AtProbe.runs_probe_full (h : AtProbe s₀ g r s) (hs : Launched .dec s₀) (hl : s.label = .de6)
    (hmax : s₀.env.sIn.bytes.length - Config.tagLen ≤ Config.msgMax) (hla : (s.buf .la).length = Config.tagLen) :
    ∃ t, Runs [] s t ∧ AtLoop s₀ (g ++ s.buf .in_) (g ++ s.buf .in_ ++ s.buf .la) r t := by
  have hmost : g.length + (s.buf .in_).length ≤ Config.msgMax := by
    have htotal := congrArg List.length h.mid.stream_eq
    simp only [List.length_append, hla] at htotal
    omega
  exact ⟨_, h.mid.runs_de6 hs hl h.full.le hla hmost, h.mid.fed .in_, rfl, .inr hla, rfl⟩

theorem AtProbe.runs_probe_short (h : AtProbe s₀ g [] s) (hs : Launched .dec s₀) (hl : s.label = .de8) :
    ∃ t, Runs [] s t ∧ AtEnd s₀ g t := by
  have hlength : (s.buf .in_ ++ s.buf .la).length = s₀.params.chunk + (s.buf .la).length := by
    rw [List.length_append, h.full]
  have hchunk := tagLen_le_chunk_of_launched hs
  have hfits : (s.buf .in_ ++ s.buf .la).length ≤ s₀.params.chunk + Config.tagLen :=
    hlength.trans_le (Nat.add_le_add_left h.probe _)
  have hmid := h.mid
  rw [List.append_assoc] at hmid
  exact ⟨_, h.mid.runs_de8 hl hfits, hmid, .inr (hchunk.trans (hlength ▸ Nat.le_add_right ..)), hfits, rfl⟩

/-- From a chunk that is not full the driver goes to the end: the stream has no more. -/
theorem AtLoop.runs_partial (h : AtLoop s₀ f g r s) (hs : Launched .dec s₀)
    (hpart : (r.take s.params.chunk).length ≠ s.params.chunk) : ∃ t, Runs [] s t ∧ AtEnd s₀ f t := by
  have hp : s.params.chunk = s₀.params.chunk := congrArg Params.chunk h.mid.params_eq
  have hde1 := h.mid.runs_de1 hs h.label
  rw [if_neg hpart] at hde1
  have hu : Midway s₀ f (g ++ r.take s.params.chunk) (r.drop s.params.chunk)
      ((s.fetched .in_ s.params.chunk).goto .de9) := h.mid.fetched hs .in_ s.params.chunk
  have hul : ((s.fetched .in_ s.params.chunk).goto .de9).label = .de9 := rfl
  have hin : ((s.fetched .in_ s.params.chunk).goto .de9).buf .in_ = r.take s.params.chunk :=
    fetched_buf h.mid hs .in_ _
  have hlb : ((s.fetched .in_ s.params.chunk).goto .de9).buf .lb = s.buf .lb := rfl
  generalize (s.fetched .in_ s.params.chunk).goto .de9 = u at hde1 hu hul hin hlb
  rw [drop_eq_nil_of_length_take_ne hpart, h.window, ← hin, ← hlb, List.append_assoc] at hu
  have hfits : (u.buf .lb ++ u.buf .in_).length ≤ s₀.params.chunk + Config.tagLen := by
    rw [List.length_append, hlb, hin, Nat.add_comm, ← hp]
    exact Nat.add_le_add (List.length_take_le ..) h.length_lookbehind
  refine ⟨_, hde1.trans (hu.runs_de9 hul hfits), hu, ?_, hfits, rfl⟩
  rcases h.lookbehind with ⟨hf, -⟩ | hfull
  · exact .inl hf
  · right
    rw [State.goto_buf, State.setBuf_buf_self, List.length_append, hlb, hfull]
    exact Nat.le_add_right ..

/-- The loop ends with all the stream read, the last bytes of it, at least a tag's worth where there are so many, in
`X`. -/
theorem AtLoop.runs_loop {s : State} {f g r : List Byte} (h : AtLoop s₀ f g r s) (hs : Launched .dec s₀)
    (hmax : s₀.env.sIn.bytes.length - Config.tagLen ≤ Config.msgMax) : ∃ t f', Runs [] s t ∧ AtEnd s₀ f' t := by
  by_cases hfull : (r.take s.params.chunk).length = s.params.chunk
  · obtain ⟨v, hv, hla, hprobed⟩ := h.runs_full hs hmax hfull
    by_cases hprobe : (v.buf .la).length = Config.tagLen
    · rw [if_pos hprobe] at hv
      obtain ⟨w, hw, hloop⟩ := AtProbe.runs_probe_full (s := v.goto .de6) ⟨hprobed.mid, hprobed.full, hprobed.probe⟩ hs
        rfl hmax hprobe
      have hshorter : ((r.drop s.params.chunk).drop Config.tagLen).length < r.length := by
        have htag : 0 < Config.tagLen := by decide
        rw [hla, List.length_take] at hprobe
        rw [List.length_drop]
        rw [List.length_drop] at hprobe ⊢
        omega
      obtain ⟨t, f', ht, hend⟩ := AtLoop.runs_loop hloop hs hmax
      exact ⟨t, f', hv.trans (hw.trans ht), hend⟩
    · rw [if_neg hprobe] at hv
      rw [drop_eq_nil_of_length_take_ne (hla ▸ hprobe)] at hprobed
      obtain ⟨t, ht, hend⟩ := AtProbe.runs_probe_short (s := v.goto .de8) ⟨hprobed.mid, hprobed.full, hprobed.probe⟩ hs
        rfl
      exact ⟨t, g, hv.trans ht, hend⟩
  · obtain ⟨t, ht, hend⟩ := h.runs_partial hs hfull
    exact ⟨t, f, ht, hend⟩
termination_by r.length
decreasing_by exact hshorter

/-- The first turn of the loop finds nothing read and an empty lookbehind; the driver comes to `DF1` with all read. -/
theorem Launchable.exists_atEnd {s : State} {k : KSel} {z : KeySize} {n : Nat} (h : Launchable .dec k z n s)
    (hmax : s.env.sIn.bytes.length - 16 ≤ Config.msgMax) :
    ∃ t f, Runs [] ((s.launched .dec k z n).goto .de1) t ∧ AtEnd (s.launched .dec k z n) f t :=
  AtLoop.runs_loop ⟨h.midway .de1, rfl, .inl ⟨rfl, rfl⟩, rfl⟩ h.launched hmax

/-! ### The finalize steps -/

theorem AtEnd.busy (h : AtEnd s₀ f s) : s.fsm = .streaming := h.mid.busy

/-- Fewer bytes than a tag: the call is aborted (R206). -/
theorem AtEnd.runs_short (h : AtEnd s₀ f s) (hshort : (s.buf .x).length < Config.tagLen) :
    Runs [] s (abort .inputTooShort s) := by
  refine h.mid.runs_label h.label ?_
  have hstep : driverStep { s with label := .df1 } = [.raise .inputTooShort] :=
    congrArg (fun a => [a]) (if_pos hshort)
  rw [hstep]
  exact runs_raise _ s

/-- The state once `X` is split into the last of the ciphertext and the tag (R207). -/
def State.split (s : State) : State :=
  (s.setBuf .ct ((s.buf .x).take ((s.buf .x).length - Config.tagLen))).setBuf .tag
    ((s.buf .x).drop ((s.buf .x).length - Config.tagLen))

theorem AtEnd.runs_split (h : AtEnd s₀ f s) (hs : Launched .dec s₀) (hlong : Config.tagLen ≤ (s.buf .x).length) :
    Runs [] s (s.split.goto .df3) := by
  have hp : s.params.chunk = s₀.params.chunk := congrArg Params.chunk h.mid.params_eq
  have hdf1 : Runs [] s (s.goto .df2) := by
    refine h.mid.runs_label h.label ?_
    have hstep : driverStep { s with label := .df1 } = [.goto .df2] :=
      congrArg (fun a => [a]) (if_neg (Nat.not_lt.mpr hlong))
    rw [hstep]
    exact runs_goto _ s
  have hct : (s.buf .x).length - Config.tagLen ≤ s.params.chunk := Nat.sub_le_of_le_add (hp ▸ h.fits)
  have hfits : Fits16 ((s.buf .x).length - Config.tagLen) := hct.trans_lt (hp ▸ hs.fits16_chunk)
  have hhead := performs_bHead (s := s.goto .df2) (dst := .ct) (src := .x) hfits (Nat.sub_le ..) hct
  have htail := performs_bTail (dst := .tag) (src := .x) (n := Config.tagLen)
    (s := (s.goto .df2).setBuf .ct ((s.buf .x).take ((s.buf .x).length - Config.tagLen))) (by decide) hlong le_rfl
  exact hdf1.trans (runs_driverStep h.busy (.cons hhead (.cons htail (runs_goto .df3 _))))

/-- The state once the last of the ciphertext is fed and the tag compared (R208 to R210). -/
def State.verified (s : State) : State := finalizedDec (tagSet .tag (s.split.fed .ct))

/-- The state at the end of a call whose input was long enough (R211). -/
def State.decDone (s : State) : State := finishCall (if s.verified.auth then 0x30 else 0x21) s.verified.scrub

theorem length_split_ct (s : State) : (s.split.buf .ct).length = (s.buf .x).length - Config.tagLen :=
  List.length_take_of_le (Nat.sub_le ..)

theorem AtEnd.runs_long (h : AtEnd s₀ f s) (hs : Launched .dec s₀) (hlong : Config.tagLen ≤ (s.buf .x).length)
    (hmax : s₀.env.sIn.bytes.length - Config.tagLen ≤ Config.msgMax) : Runs [] s s.decDone := by
  have htag : (s.split.buf .tag).length = Config.tagLen := length_drop_sub hlong
  have hct : (s.split.buf .ct).length ≤ s₀.params.chunk :=
    (length_split_ct s).trans_le (Nat.sub_le_of_le_add h.fits)
  have hmost : f.length + (s.split.buf .ct).length ≤ Config.msgMax := by
    have htotal := congrArg List.length h.mid.stream_eq
    simp only [List.length_append, List.length_nil] at htotal
    rw [length_split_ct]
    omega
  have hsplit : Midway s₀ f (f ++ s.buf .x) [] (s.split.goto .df3) := h.mid
  obtain ⟨hv, hd, -, hf⟩ := (hsplit.fed .ct).bound hs
  have hdf3 := hsplit.runs_label rfl (hsplit.runs_fed hs (src := .ct) (by decide) hct hmost (runs_goto .df4 _))
  have hset := performs_eSetTag (src := .tag) (s := (s.split.fed .ct).goto .df4) ⟨hv, hd, hf, htag⟩
  have hfinal := performs_eFinalizeDec (s := (tagSet .tag (s.split.fed .ct)).goto .df5) ⟨hv, hd, rfl, hf⟩
  exact (h.runs_split hs hlong).trans (hdf3.trans (.step h.busy (.cons hset (runs_goto .df5 _))
    (.step h.busy (.cons hfinal (runs_goto .df6 _)) (runs_driverStep h.busy
      (.cons (performs_sDiag nofun) (.cons (performs_sDiag fun _ => htag)
        (.cons (performs_eRelease _) (runs_complete _ _))))))))

/-- A stream of a tag's worth leaves a tag's worth at least in `X`. -/
theorem AtEnd.tagLen_le_length_x_iff (h : AtEnd s₀ f s) :
    Config.tagLen ≤ (s.buf .x).length ↔ Config.tagLen ≤ s₀.env.sIn.bytes.length := by
  have htotal := congrArg List.length h.mid.stream_eq
  simp only [List.length_append, List.length_nil] at htotal
  rcases h.whole with rfl | hx
  · rw [List.length_nil] at htotal
    omega
  · omega

/-- All but the last 16 bytes of the stream are ciphertext, those 16 the tag. -/
theorem AtEnd.split_stream (h : AtEnd s₀ f s) (hlong : Config.tagLen ≤ (s.buf .x).length) :
    f ++ s.split.buf .ct = s₀.env.sIn.bytes.take (s₀.env.sIn.bytes.length - Config.tagLen) ∧
      s.split.buf .tag = s₀.env.sIn.bytes.drop (s₀.env.sIn.bytes.length - Config.tagLen) := by
  have hbytes : s₀.env.sIn.bytes = f ++ s.buf .x := by rw [h.mid.stream_eq, List.append_nil]
  have hlen : s₀.env.sIn.bytes.length - Config.tagLen = f.length + ((s.buf .x).length - Config.tagLen) := by
    rw [hbytes, List.length_append, Nat.add_sub_assoc hlong]
  rw [hlen, hbytes, List.take_length_add_append, List.drop_length_add_append]
  exact ⟨rfl, rfl⟩

/-- The tag compares equal exactly when the bytes of the computed one are the last 16 of the stream (R129). -/
theorem verified_auth (hlong : Config.tagLen ≤ (s.buf .x).length) :
    s.verified.auth = decide (blockBytes (finalTag (s.split.fed .ct).ctx) = s.split.buf .tag) := by
  have htag : (s.split.buf .tag).length = Config.tagLen := length_drop_sub hlong
  have hauth : s.verified.auth =
      decide (finalTag (s.split.fed .ct).ctx = bytesBlock (s.split.buf .tag)) := rfl
  rw [hauth]
  congr 1
  refine propext ⟨fun heq => ?_, fun heq => ?_⟩
  · rw [heq, blockBytes_bytesBlock htag]
  · rw [← heq, bytesBlock_blockBytes]

end Decryption

end Sys2Proof.Machine
end

section
/-! The obligations on whole decryption calls (R206, R212, R287). -/

namespace Sys2Proof.Certificates

open Sys2Proof.Machine Sys2Proof.Safety

/-- Settles O59: at `DF1` the engine has had all but the last bytes, which the split gives to the engine and to the
comparison; the streaming engine is the one-shot one (O56). -/
theorem decryptCallComputesGcm : Obligations.DecryptCallComputesGcm := by
  intro s k z n hinv hrest hwb hcmd hpos hk hz h1 hmax hlong hlen
  have h : Launchable .dec k z n s := ⟨hinv, hrest, hwb, hcmd, hpos, hk, hz, h1, hmax⟩
  obtain ⟨t, f, hloop, hend⟩ := h.exists_atEnd hlen
  have hx : Config.tagLen ≤ (t.buf .x).length := hend.tagLen_le_length_x_iff.mpr hlong
  obtain ⟨m, y, hrun⟩ := h.exists_run (hloop.trans (hend.runs_long h.launched hx hlen))
  have hslice : (Memory.slice s.key 0 (keyLen z)).length = keyLen z := Memory.slice_length ..
  obtain ⟨-, hgcm⟩ := streamingIsOneShotGcm (s.accepted .dec k n).ctx (Memory.slice s.key 0 (keyLen z))
    (Memory.slice s.ivmem 0 n) (s.env.sIn.bytes.take (s.env.sIn.bytes.length - 16))
    (hslice.symm ▸ keyLength_keyLen z)
  obtain ⟨hct, htag⟩ := hend.split_stream hx
  have hmid := Midway.fed (s := t.split) hend.mid .ct
  rw [hct] at hmid
  obtain ⟨⟨-, hkey, hivmem, -⟩, ⟨hbytes, -, hcntIn⟩, hctx, hsink, hcntOut⟩ := hmid
  rw [List.append_nil] at hbytes
  rw [← hbytes] at hcntIn
  rw [List.length_take_of_le (Nat.sub_le ..)] at hcntOut
  refine ⟨m, _, hrun, rfl, hcntIn, hcntOut, ?_, ?_, ⟨rfl, rfl, rfl⟩, fun a => ⟨?_, ?_⟩⟩
  · rw [← hgcm]
    exact hsink
  · have hresult : (t.decDone.withPorts [] y).result = if t.verified.auth then 0x30 else 0x21 := rfl
    rw [hresult, verified_auth hx, hctx, htag, ← hgcm]
    simp only [decide_eq_true_eq]
    rfl
  · exact congrArg (Memory.read · a) hkey
  · exact congrArg (Memory.read · a) hivmem

/-- Settles O60: `X` holds the whole stream and is shorter than a tag; nothing has been fed. -/
theorem shortInputIsTooShort : Obligations.ShortInputIsTooShort := by
  intro s k z n hinv hrest hwb hcmd hpos hk hz h1 hmax hshort
  have h : Launchable .dec k z n s := ⟨hinv, hrest, hwb, hcmd, hpos, hk, hz, h1, hmax⟩
  obtain ⟨t, f, hloop, hend⟩ := h.exists_atEnd ((Nat.sub_eq_zero_of_le hshort.le).trans_le (Nat.zero_le _))
  have hx : ¬ Config.tagLen ≤ (t.buf .x).length := fun hx =>
    absurd (hend.tagLen_le_length_x_iff.mp hx) (Nat.not_le.mpr hshort)
  obtain rfl : f = [] := hend.whole.resolve_right hx
  obtain ⟨m, y, hrun⟩ := h.exists_run (hloop.trans (hend.runs_short (Nat.not_le.mp hx)))
  obtain ⟨hdir, -⟩ := operands_callCommand .dec k h.fits16
  obtain ⟨⟨-, hkey, hivmem, hcmdl, -⟩, ⟨hbytes, -, hcntIn⟩, -, hsink, hcntOut⟩ := hend.mid
  rw [List.append_nil] at hbytes
  rw [← hbytes] at hcntIn
  refine ⟨m, _, hrun, rfl, ?_, hcntIn, hcntOut.trans (Nat.zero_mod _), hsink.trans (List.append_nil _),
    ⟨rfl, rfl, rfl⟩, fun a => ⟨?_, ?_⟩⟩
  · have hresult : ((abort .inputTooShort t).withPorts [] y).result = resultByte (dirOf t.cmdl) false .inputTooShort :=
      rfl
    have hdec : dirOf t.cmdl = .dec := (congrArg dirOf hcmdl).trans hdir
    rw [hresult, hdec]
    decide
  · exact congrArg (Memory.read · a) hkey
  · exact congrArg (Memory.read · a) hivmem

end Sys2Proof.Certificates
end
